-- ==== Sys2Proof/Word.lean ====
section
/-! DEFINITION. The words of the part (bytes, frame serials, epochs, 40-bit counters, pixels) and the units of time. -/

namespace Sys2Proof

/-- One byte of a mark, a payload, the configuration image or the service port. -/
abbrev Byte := BitVec 8

/-- A frame serial: 16 bits, wrapping (Conventions of 00_scope; R10). -/
abbrev Serial := BitVec 16

/-- An epoch number: 8 bits, compared modulo 256 (Conventions of 00_scope; R117). -/
abbrev Epoch := BitVec 8

/-- A station number, 0 to 15 (Conventions of 00_scope). -/
abbrev StationNo := BitVec 4

/-- A lag-meter counter: 40 bits (R171). -/
abbrev Count40 := BitVec 40

/-- One pixel, red in the high byte, then green, then blue (R2, R38). -/
abbrev Pixel := BitVec 24

/-- Black (R20). -/
def Pixel.black : Pixel := 0#24

/-- White (R160). -/
def Pixel.white : Pixel := 0xFFFFFF#24

/-- One microsecond in the clock's unit, the nanosecond. -/
abbrev us : Nat := 1000

/-- One millisecond in nanoseconds. -/
abbrev ms : Nat := 1000000

end Sys2Proof
end

