-- ==== Sys2Proof/Syntax.lean ====
section
/-! DEFINITION. The commands: one constructor of `Instr` per row of spec/opcode_table.json. -/

namespace Sys2Proof

/-- What a receiver has read of a notice besides its kind and payload (R72): the station field, the epoch field, and whether
the NAK slot read dominant (R79). -/
structure Rx where
  sender : StationNo
  epoch : Epoch
  nak : Bool
  deriving DecidableEq, Repr

/-- How an attempt starts on the wire (R71, R75): the moment, and whether a dominant bit that another station drives is read
from that moment on. Without one, only an attempt of this station's own starts. -/
structure Start where
  moment : Nat
  heard : Bool
  deriving DecidableEq, Repr

/-- The run of equal bits that ends what was read of a notice: its level and its length (R69, R90). -/
structure Tail where
  dominant : Bool
  bits : Nat
  deriving DecidableEq, Repr

/-- The end of a notice whose check failed (R79): the run that ends the stuffed range, whether another receiver drove the NAK
slot dominant, and the seven end bits read, the first in the high bit, 1 recessive. -/
structure BadEnd where
  tail : Tail
  nak : Bool
  ends : BitVec 7
  deriving DecidableEq, Repr

/-- The point of a form error (R78): its moment, and the run of equal bits that ends what was read up to it: a dominant one at
a dominant end bit, and the one that ends the stuffed range where the kind or the length is wrong. -/
structure FormPoint where
  moment : Nat
  tail : Tail
  deriving DecidableEq, Repr

/-- A command. The first operand of every command is its moment `t` in nanoseconds (log 1), or holds it as `moment`. -/
inductive Instr where
  -- Source port (01_source_port_and_line_intake.md)
  /-- FS_ARRIVAL: a mark of type 0x01 is complete; `mark` is all its bytes, the type first (R1, R196). -/
  | fsArrival (t : Nat) (mark : List Byte)
  /-- MARK_START: the first part of a mark, its type byte, is seen (R3). -/
  | markStart (t : Nat) (kind : Byte)
  /-- LS_ARRIVAL: a mark of type 0x02 is complete; `mark` is all its bytes, the type first (R2, R13, R196). -/
  | lsArrival (t : Nat) (mark : List Byte)
  /-- PAYLOAD_BYTE: one byte of line payload (R3, R20). -/
  | payloadByte (t : Nat) (b : Byte)
  /-- LINE_CHECK_END: the line check received, high byte first (R2, R15). -/
  | lineCheckEnd (t : Nat) (check : BitVec 16)
  /-- SILENCE_TIMER_EXPIRY (R8). -/
  | silenceTimerExpiry (t : Nat)
  /-- LINE_RATE_GATE_CLOSE (R18). -/
  | lineRateGateClose (t : Nat)
  /-- FILL_LINE: the next black fill line (R21, R30). -/
  | fillLine (t : Nat)
  -- Line queue and tile memory (02_line_queue_and_tile_memory.md)
  /-- WRITER_TAKE (R33). -/
  | writerTake (t : Nat)
  /-- TRANSFER_COMPLETE (R35). -/
  | transferComplete (t : Nat)
  /-- WRITER_COMMIT (R35). -/
  | writerCommit (t : Nat)
  -- Panel scan (03_panel_scan.md)
  /-- IDLE_PASS_START (R44). -/
  | idlePassStart (t : Nat)
  /-- NEW_FRAME_SCAN_START (R53). -/
  | newFrameScanStart (t : Nat)
  /-- REPEAT_SCAN_START (R64). -/
  | repeatScanStart (t : Nat)
  /-- SCAN_ROW_READ (R46). -/
  | scanRowRead (t : Nat)
  /-- SCAN_END (R47). -/
  | scanEnd (t : Nat)
  /-- MIN_PERIOD_EXPIRY (R52). -/
  | minPeriodExpiry (t : Nat)
  /-- STROBE_PULSE_START (R66). -/
  | strobePulseStart (t : Nat)
  /-- STROBE_PULSE_END (R66). -/
  | strobePulseEnd (t : Nat)
  /-- REPEAT_DEADLINE (R60). -/
  | repeatDeadline (t : Nat)
  /-- GROUP_OF_ONE_REPEAT (R61). -/
  | groupOfOneRepeat (t : Nat)
  /-- PRIVATE_REPEAT (R62). -/
  | privateRepeat (t : Nat)
  -- The cadence bus (04_the_cadence_bus.md)
  /-- NOTICE_ATTEMPT_START (R71, R75): an attempt starts on the wire, the station's own or another station's. -/
  | noticeAttemptStart (t : Start)
  /-- WAKE_GAP_END (R86). -/
  | wakeGapEnd (t : Nat)
  /-- PREAMBLE_INTERRUPTED (R86). -/
  | preambleInterrupted (t : Nat)
  /-- ARBITRATION_LOSS at bit `pos` of the stuffed range, the start bit being bit 0 (R76, R77). -/
  | arbitrationLoss (t : Nat) (pos : Nat)
  /-- BIT_ERROR at bit `pos` of the stuffed range (R76). -/
  | bitError (t : Nat) (pos : Nat)
  /-- STUFFING_ERROR: the sixth equal bit, dominant or recessive (R80). -/
  | stuffingError (t : Nat) (dominant : Bool)
  /-- NOTICE_CHECK_FAILURE, at the notice's end (R79). -/
  | noticeCheckFailure (t : Nat) (nak : BadEnd)
  /-- NOTICE_FORM_ERROR (R78). -/
  | noticeFormError (t : FormPoint)
  /-- ATTEMPT_END: the NAK slot read (true is dominant) and the seven end bits read, the first in the high bit, 1
  recessive (R81). -/
  | attemptEnd (t : Nat) (nak : Bool) (ends : BitVec 7)
  /-- PREAMBLE_RECOGNISED: the three runs read, in ns (R87). -/
  | preambleRecognised (t : Nat) (run1 run2 run3 : Nat)
  /-- WAKE_HOLDOFF_EXPIRY (R87). -/
  | wakeHoldoffExpiry (t : Nat)
  /-- DRIVER_MUTE (R88). -/
  | driverMute (t : Nat)
  /-- MUTE_RELEASE (R89). -/
  | muteRelease (t : Nat)
  /-- BUS_LOST (R90). -/
  | busLost (t : Nat)
  /-- BUS_RECOVERED (R90). -/
  | busRecovered (t : Nat)
  /-- REPEAT_RECEIVED (R127). -/
  | repeatReceived (t : Nat) (h : Rx)
  /-- REFUSE_RECEIVED: the payload byte (R106, R197). -/
  | refuseReceived (t : Nat) (h : Rx) (payload : Byte)
  /-- LEAVE_RECEIVED: the reason byte (R108, R197). -/
  | leaveReceived (t : Nat) (h : Rx) (reason : Byte)
  /-- JOIN_RECEIVED: the seven payload bytes, the first the highest (R99). -/
  | joinReceived (t : Nat) (h : Rx) (payload : BitVec 56)
  /-- STATUS_RECEIVED: the four payload bytes, the first the highest (R122). -/
  | statusReceived (t : Nat) (h : Rx) (payload : BitVec 32)
  /-- WAKE_RECEIVED: the mask, bit n for station n (R145). -/
  | wakeReceived (t : Nat) (h : Rx) (mask : BitVec 16)
  /-- STANDBY_RECEIVED (R143). -/
  | standbyReceived (t : Nat) (h : Rx)
  /-- COUNT_RECEIVED: the action byte (R176). -/
  | countReceived (t : Nat) (h : Rx) (action : Byte)
  /-- IDENT_RECEIVED: the seconds byte (R164). -/
  | identReceived (t : Nat) (h : Rx) (seconds : Byte)
  -- Membership windows (05_group_membership.md)
  /-- LISTEN_WINDOW_END (R98). -/
  | listenWindowEnd (t : Nat)
  /-- OWN_REFUSAL_WINDOW_END (R104). -/
  | ownRefusalWindowEnd (t : Nat)
  /-- ENTRY_WINDOW_END of the entry of station `x` (R103). -/
  | entryWindowEnd (t : Nat) (x : StationNo)
  -- Station states, supplies, resets, boot (07_standby_sleep_and_wake.md, 10_configuration_memory_and_panel_profiles.md)
  /-- POWER_LOSS (R138). -/
  | powerLoss (t : Nat)
  /-- POWER_GOOD, with the levels of the strap pins at that moment (R138, R180). -/
  | powerGood (t : Nat) (straps : StationNo)
  /-- RESET_PIN_ASSERT: RESETn has been low for 10 us (R138). -/
  | resetPinAssert (t : Nat)
  /-- RESET_PIN_RELEASE, with the levels of the strap pins at that moment (R138, R180). -/
  | resetPinRelease (t : Nat) (straps : StationNo)
  /-- CONFIG_READ: the bytes clocked in (R181). -/
  | configRead (t : Nat) (image : List Byte)
  /-- BOOT_END (R180). -/
  | bootEnd (t : Nat)
  /-- DEPARTURE_ENTRY (R141). -/
  | departureEntry (t : Nat)
  /-- SILENT_RUN_TIME_REACHED (R142). -/
  | silentRunTimeReached (t : Nat)
  /-- SOURCE_ACTIVITY (R145). -/
  | sourceActivity (t : Nat)
  /-- WAKE_PATTERN_ACCEPTED: the three runs read, in ns (R148). -/
  | wakePatternAccepted (t : Nat) (run1 run2 run3 : Nat)
  /-- WAKE_PATTERN_TIMEOUT (R148). -/
  | wakePatternTimeout (t : Nat)
  /-- FULL_RECEIVER_UP (R148). -/
  | fullReceiverUp (t : Nat)
  /-- DECODE_WINDOW_EXPIRY (R149). -/
  | decodeWindowExpiry (t : Nat)
  /-- SUPPLY_SENSE_CHANGE: whether PSENSE now reads below 0.60 V (R153). -/
  | supplySenseChange (t : Nat) (low : Bool)
  /-- SUPPLY_LOW_TIMER_EXPIRY (R153). -/
  | supplyLowTimerExpiry (t : Nat)
  /-- TEMPERATURE_READING, in whole degrees Celsius (R155). -/
  | temperatureReading (t : Nat) (degrees : Int)
  /-- IDENTIFY_TIMER_EXPIRY (R163). -/
  | identifyTimerExpiry (t : Nat)
  -- Service commands: the write of the code to 0x15, the argument being the byte at 0x14 (11, R192, R193)
  /-- SLEEP (R146). -/
  | sleep (t : Nat)
  /-- WAKE (R152). -/
  | wake (t : Nat)
  /-- REJOIN (R109). -/
  | rejoin (t : Nat)
  /-- IDENTIFY (R165). -/
  | identify (t : Nat)
  /-- FREEZE (R174). -/
  | freeze (t : Nat)
  /-- THAW (R174). -/
  | thaw (t : Nat)
  /-- CLEAR (R174). -/
  | clear (t : Nat)
  /-- GROUP_FREEZE (R175). -/
  | groupFreeze (t : Nat)
  /-- GROUP_THAW (R175). -/
  | groupThaw (t : Nat)
  /-- GROUP_CLEAR (R175). -/
  | groupClear (t : Nat)
  /-- CLEAR_FAULT (R194). -/
  | clearFault (t : Nat)
  /-- RESET, with the levels of the strap pins at that moment (R138, R180). -/
  | reset (t : Nat) (straps : StationNo)
  /-- UNKNOWN_COMMAND: a code outside the table of R193 (R192). -/
  | unknownCommand (t : Nat) (code : Byte)
  -- Service port (11_service_port_and_format_tables.md)
  /-- IMAGE_BYTE_READ: a read of 0x74 (R194). -/
  | imageByteRead (t : Nat)
  /-- IMAGE_INDEX_WRITE: a write of 0x73 (R194). -/
  | imageIndexWrite (t : Nat) (b : Byte)
  /-- SNAPSHOT_LATCH_READ: a byte is read at the pointer, which a write of `addr` has set first if there is one; the first
  byte of a multi-byte value latches it (R188, R189). -/
  | snapshotLatchRead (t : Nat) (addr : Option Byte)
  /-- FLAG_CLEAR_WRITE: a write of a flag byte, 0x10 (false) or 0x11 (true) (R191). -/
  | flagClearWrite (t : Nat) (high : Bool) (b : Byte)
  /-- MASK_WRITE: a write of a mask byte, 0x12 (false) or 0x13 (true) (R191). -/
  | maskWrite (t : Nat) (high : Bool) (b : Byte)
  /-- COUNTER_VALUE_WRITE: a write of one byte of a counter value, 0x40 to 0x65: at `addr`, or at the pointer (R188, R190). -/
  | counterValueWrite (t : Nat) (addr : Option Byte) (b : Byte)
  /-- COUNTER_SETTINGS_WRITE: a write of one settings byte, 0x66 to 0x6D: at `addr`, or at the pointer (R173, R188). -/
  | counterSettingsWrite (t : Nat) (addr : Option Byte) (b : Byte)
  /-- REGISTER_WRITE: the pointer is set to `addr` if there is one, and a byte, if there is one, is written at the pointer
  (R188). -/
  | registerWrite (t : Nat) (addr : Option Byte) (b : Option Byte)
  -- Rows at the end of the table
  /-- BUS_IDLE: the ninth recessive bit (R69). -/
  | busIdle (t : Nat)
  /-- WAKE_PATTERN_REJECTED: a run out of its range (R148). -/
  | wakePatternRejected (t : Nat)
  deriving DecidableEq, Repr

end Sys2Proof
end

