-- ==== Sys2Proof/Decode.lean ====
section
/-! DEFINITION. The command a word spells by the opcode table's bits: the table gives no row any bits, so no word spells one. -/

namespace Sys2Proof

/-- No row of spec/opcode_table.json has fixed bits or fields (98_reader.md: "n_rows_with_fixed": 0), so no word spells a
command. -/
def decodeTableWord (_nbits _w : Nat) : Option Instr := none

end Sys2Proof
end

