-- ==== Sys2Proof/Machine/Sparse.lean ====
section
/-! DEFINITION. Sparse tables: lists of (number, content) in strictly rising order of the numbers. Tile memory, the row map and the peer table are held so, which makes equal tables equal data. -/

namespace Sys2Proof.Machine

/-- The content listed under `k`. -/
def Sparse.get {α : Type} : List (Nat × α) → Nat → Option α
  | [], _ => none
  | (n, a) :: rest, k => if n = k then some a else Sparse.get rest k

/-- The table with `v` listed under `k`. -/
def Sparse.put {α : Type} (k : Nat) (v : α) : List (Nat × α) → List (Nat × α)
  | [] => [(k, v)]
  | (n, a) :: rest =>
    if k < n then (k, v) :: (n, a) :: rest
    else if k = n then (k, v) :: rest
    else (n, a) :: Sparse.put k v rest

/-- The table with nothing listed under `k`. -/
def Sparse.erase {α : Type} (k : Nat) : List (Nat × α) → List (Nat × α)
  | [] => []
  | (n, a) :: rest => if n = k then Sparse.erase k rest else (n, a) :: Sparse.erase k rest

/-- The table with every content changed by `f`, which sees the number too. -/
def Sparse.mapVals {α : Type} (f : Nat → α → α) : List (Nat × α) → List (Nat × α)
  | [] => []
  | (n, a) :: rest => (n, f n a) :: Sparse.mapVals f rest

/-- Every number of the table is above `k`, and they rise strictly. -/
def Sparse.risesAbove {α : Type} : Option Nat → List (Nat × α) → Bool
  | _, [] => true
  | none, (n, _) :: rest => Sparse.risesAbove (some n) rest
  | some k, (n, _) :: rest => decide (k < n) && Sparse.risesAbove (some n) rest

/-- The canonical form: the numbers rise strictly. -/
def Sparse.wf {α : Type} (t : List (Nat × α)) : Bool := Sparse.risesAbove none t

end Sys2Proof.Machine
end

