-- ==== Sys2Proof/Machine/State.lean ====
section
/-! DEFINITION. The state of the part, block by block, as plain data, and the state right after reset. -/

namespace Sys2Proof.Machine

/-! ### Source receiver (01_source_port_and_line_intake.md) -/

/-- Lock state (R4 to R8). -/
inductive Lock where
  | search | locking | locked | silent
  deriving DecidableEq, Repr

/-- Last result of the line-rate meter (R18). -/
inductive MeterResult where
  | none | changed | kept | low | wrapped | discarded
  deriving DecidableEq, Repr

/-- The accepted line whose check is not yet evaluated (R2, R13, R20): its index, whether it claimed a slot, the CRC-16 so
far, the payload bytes received, and the bytes of the pixel in progress. -/
structure LineIn where
  index : Nat
  claimed : Bool
  crc : BitVec 16
  count : Nat
  part : List Byte
  deriving DecidableEq, Repr

/-- The fill of rows beyond the active picture (R21): the next tile row, the frame's serial, and whether the filter holds
that row for want of a FREE slot (R30). -/
structure Fill where
  row : Nat
  serial : Serial
  held : Bool
  deriving DecidableEq, Repr

/-- The source receiver with its line-rate meter and tile window filter (R1 to R22). -/
structure Src where
  lock : Lock
  width : Nat
  height : Nat
  fails : Nat
  frameOpen : Bool
  /-- Last restart of the silence timer; none while it does not run (R3). -/
  silenceFrom : Option Nat
  lastTag : Byte
  /-- Whether the present stretch of LOCKED has admitted a frame (R11). -/
  tagKnown : Bool
  /-- Reported cadence: true is VARIABLE (R10). -/
  variableCadence : Bool
  /-- Local frame serial, the serial of the last admitted frame (R10). -/
  serial : Serial
  raster : Option Nat
  skips : BitVec 16
  /-- Opening moment of the line-rate gate; none while it is CLOSED (R16). -/
  gateFrom : Option Nat
  running : Nat
  wrapped : Bool
  inUse : Option Nat
  result : MeterResult
  line : Option LineIn
  fill : Option Fill
  /-- A mark that started outside RUN is still arriving; it is not decoded (R145). -/
  lateMark : Bool
  deriving DecidableEq, Repr

/-! ### Line queue, tile writer, tile memory, row map (02_line_queue_and_tile_memory.md) -/

/-- State of a non-FREE slot (R23). -/
inductive Phase where
  | filling | waiting | writing
  deriving DecidableEq, Repr

/-- A non-FREE slot (R23). `passed` is the check result: false is PENDING. -/
structure Slot where
  phase : Phase
  serial : Serial
  row : Nat
  pixels : List Pixel
  passed : Bool
  deriving DecidableEq, Repr

/-- State of the tile writer (R32). -/
inductive Writer where
  | idle | held | transfer | staged
  deriving DecidableEq, Repr

/-- Line queue and tile writer: the non-FREE slots in ring order from the out-pointer (R23), the OVERRUN mark (R27), the
writer (R32) and the staging row once the copy is complete (R35). -/
structure Lq where
  ring : List Slot
  outPtr : Nat
  overrun : Bool
  writer : Writer
  staging : Option (List Pixel)
  deriving DecidableEq, Repr

/-- A row-map entry (R39): content serial or NONE, and the STALE mark. -/
structure RowEntry where
  serial : Option Serial
  stale : Bool
  deriving DecidableEq, Repr

/-- Tile memory (R38) and the row map (R39), each a sparse list of rows in rising order. A row that `tile` does not list is
undefined (log 7); a row that `map` does not list is NONE with its mark clear. -/
structure Mem where
  tile : List (Nat × List Pixel)
  map : List (Nat × RowEntry)
  deriving DecidableEq, Repr

/-! ### Scan engine, panel timing generator, strobe, panel port (03_panel_scan.md) -/

/-- Scan state (R44). -/
inductive ScanState where
  | dark | hold | wait | scan | rescan
  deriving DecidableEq, Repr

/-- The scan in progress: scan serial X and scan position q (R46); its kind is the scan state. -/
structure Prog where
  serial : Serial
  q : Nat
  deriving DecidableEq, Repr

/-- The waiting frame (R49): serial, admission moment, ended mark. -/
structure Waiting where
  serial : Serial
  admittedAt : Nat
  ended : Bool
  deriving DecidableEq, Repr

/-- One set of panel timing values (R65): line period in ns, rows, strobe delay and strobe width in µs. -/
structure Timing where
  period : Nat
  rows : Nat
  delay : Nat
  strobe : Nat
  deriving DecidableEq, Repr

/-- The strobe output (R66): no pulse to come, a pulse from `start`, a pulse running until `stop`. -/
inductive Strobe where
  | off
  | scheduled (start : Nat)
  | on (stop : Nat)
  deriving DecidableEq, Repr

/-- The scan engine (R44 to R67). `holdInUse` is in 10 µs units. -/
structure Scan where
  st : ScanState
  lastStart : Option Nat
  prog : Option Prog
  shown : Option Serial
  waiting : Option Waiting
  overtake : Bool
  margin : Nat
  cleanRun : Nat
  ownLead : Nat
  holdInUse : Nat
  repeatMark : Bool
  lastLag : BitVec 24
  /-- An owed repeat (R63). -/
  owed : Bool
  /-- Start of the idle pass in progress (R44). -/
  idlePass : Option Nat
  active : Timing
  shadow : Timing
  strobe : Strobe
  /-- The row last sent to the panel port by a scan, with the overlay applied (R46, R161). -/
  lastRow : Option (Nat × List Pixel)
  deriving DecidableEq, Repr

/-! ### Cadence bus interface (04_the_cadence_bus.md) -/

/-- State of the bit engine (R71). -/
inductive Engine where
  | off | waitIdle | idle | sending | receiving | wakeSend | lost
  deriving DecidableEq, Repr

/-- The nine notice kinds, in the order of their codes 1 to 9 (R72). -/
inductive Kind where
  | rep | refuse | leave | join | status | wake | standby | count | ident
  deriving DecidableEq, Repr

/-- A notice in a slot (R82): payload, failed attempts (0 is NEW, 1 or 2 a RETRY), and the epoch it holds, if any. -/
structure Queued where
  payload : List Byte
  fails : Nat
  epoch : Option Epoch
  deriving DecidableEq, Repr

/-- The transmit queue, one slot for each kind (R82); none is EMPTY. -/
structure TxQueue where
  rep : Option Queued
  refuse : Option Queued
  leave : Option Queued
  join : Option Queued
  status : Option Queued
  wake : Option Queued
  standby : Option Queued
  count : Option Queued
  ident : Option Queued
  deriving DecidableEq, Repr

/-- The transmit register (R83): the notice, the epoch field of the attempt (R82), whether it was withdrawn meanwhile
(R84), and the bits of its stuffed range, true being recessive (R73). During a preamble the last two are not yet set. -/
structure TxReg where
  kind : Kind
  notice : Queued
  epoch : Epoch
  withdrawn : Bool
  startedAt : Nat
  bits : List Bool
  deriving DecidableEq, Repr

/-- Mute state (R88, R89). -/
inductive Mute where
  | enabled | muted | permanent
  deriving DecidableEq, Repr

/-- The bus interface (R68 to R92). -/
structure Bus where
  engine : Engine
  idleCount : Nat
  q : TxQueue
  reg : Option TxReg
  /-- End of the wake hold-off; none while it is clear (R87). -/
  holdoff : Option Nat
  mute : Mute
  muteCount : BitVec 8
  muteAges : List Nat
  /-- The earliest moment at which the present recessive run of the wire can have begun (R69, R89, R90, log 11). -/
  recessiveFrom : Option Nat
  /-- The earliest moment at which the stuck-bus run of R90 can have begun (log 11). -/
  runFrom : Option Nat
  /-- The moment from which a muted station's recessive run is counted: the mute, or an entry to RUN since (R89, R92). -/
  muteFrom : Option Nat
  /-- The station's own epoch at the start bit of the notice last begun on the wire: the start epoch S of R134. -/
  startEpoch : Epoch
  /-- Bit time in ns (R68). -/
  bitTime : Nat
  /-- Whether this station drove the last NAK slot it judged dominant (R79). -/
  nakDriven : Bool
  deriving DecidableEq, Repr

/-! ### Group controller (05_group_membership.md, 06_group_timing_agreement.md) -/

/-- Membership state (R93). -/
inductive Membership where
  | outside | listening | joining | member | listener | alone | refused | duplicate
  deriving DecidableEq, Repr

/-- State of a peer-table entry (R95). -/
inductive PeerState where
  | pending | member | silent
  deriving DecidableEq, Repr

/-- Why a JOIN is refused (R99). -/
inductive Reason where
  | tileTaken | band | geometry
  deriving DecidableEq, Repr

/-- The record a JOIN carries (R98, R99): line period in 10 ns, minimum frame period in 10 µs. -/
structure JoinRec where
  col : BitVec 2
  row : BitVec 2
  top : BitVec 12
  rows : BitVec 11
  period : BitVec 12
  minPeriod : BitVec 16
  deriving DecidableEq, Repr

/-- The five flags of an announcement (R120). -/
structure AnnFlags where
  sourceLost : Bool
  warm : Bool
  overrun : Bool
  outOfStep : Bool
  marginUp : Bool
  deriving DecidableEq, Repr

/-- An announcement: lead in rows, flags, hold in 10 µs (R120). -/
structure Ann where
  lead : BitVec 11
  flags : AnnFlags
  hold : BitVec 16
  deriving DecidableEq, Repr

/-- An announcement waiting for its effective epoch (R122). -/
structure PendAnn where
  ann : Ann
  effective : Epoch
  deriving DecidableEq, Repr

/-- A peer-table entry (R95); its key, the station number, stands beside it in the table. -/
structure Peer where
  state : PeerState
  join : Option JoinRec
  order : Option Nat
  windowEnd : Option Nat
  inUse : Option Ann
  pend : Option PendAnn
  heard : Nat
  due : Option Reason
  deriving DecidableEq, Repr

/-- Who refused this station (R107). -/
inductive Refuser where
  | station (n : StationNo)
  | self
  deriving DecidableEq, Repr

/-- The refusal record (R107); the reason is the two bits of the REFUSE, 0 for none (R197). -/
structure Refusing where
  refuser : Refuser
  reason : BitVec 2
  deriving DecidableEq, Repr

/-- Last REPEAT outcome (R117). -/
inductive RepeatOutcome where
  | none | taken | resequenced | ignored
  deriving DecidableEq, Repr

/-- The group controller (R93 to R137). Holds are in 10 µs units. -/
structure Grp where
  membership : Membership
  /-- The peer table, keyed by station number, in rising order (R95). -/
  peers : List (Nat × Peer)
  listenEnd : Option Nat
  /-- The first member notice of the listen window has come (R98). -/
  listenAdopted : Bool
  ownWindowEnd : Option Nat
  refusal : Option Refusing
  dupLatch : Bool
  epoch : Epoch
  admMark : Option Serial
  outOfStep : Bool
  cleanEpochs : Nat
  lastRepeat : RepeatOutcome
  ownInUse : Option Ann
  ownPend : Option PendAnn
  groupLead : Nat
  groupHold : Nat
  deriving DecidableEq, Repr

/-! ### Station controller (07_standby_sleep_and_wake.md) -/

/-- Station state (R138). -/
inductive StationState where
  | off | boot | halted | run | standby | sleep | overheat
  deriving DecidableEq, Repr

/-- Reset cause (R194). -/
inductive ResetCause where
  | none | power | pin | command
  deriving DecidableEq, Repr

/-- Reason of a departure (R141). -/
inductive DepReason where
  | sleep | supply | heat
  deriving DecidableEq, Repr

/-- The pending departure (R141): reason, moment its LEAVE was queued, whether that LEAVE has ended, and whether a SUPPLY
departure's decision has cut the scan. -/
structure Departure where
  reason : DepReason
  queuedAt : Nat
  leaveEnded : Bool
  decided : Bool
  deriving DecidableEq, Repr

/-- Sleep cause (R158). -/
inductive SleepCause where
  | none | command | forced
  deriving DecidableEq, Repr

/-- Last wake cause (R158). -/
inductive WakeCause where
  | none | source | notice | command | failsafe
  deriving DecidableEq, Repr

/-- The wake-pattern detector and the sleep wake path (R147 to R149), with the moment the present stage began. -/
inductive Detector where
  | off
  | waiting
  | powering (since : Nat)
  | window (since : Nat)
  deriving DecidableEq, Repr

/-- The station controller (R138 to R158), with the levels of the pins it watches. -/
structure Ctl where
  st : StationState
  /-- Held in reset by RESETn (R138). -/
  held : Bool
  resetLow : Bool
  bootFrom : Nat
  resetCause : ResetCause
  station : StationNo
  /-- The strap pins' levels as last reported (log 24). -/
  strapPins : StationNo
  departure : Option Departure
  standbyPending : Bool
  sleepCause : SleepCause
  wakeCause : WakeCause
  forcedListen : Bool
  sleepFails : Nat
  /-- Start of the SILENT run time; none while it does not run (R142). -/
  silentFrom : Option Nat
  senseLow : Bool
  /-- Start of the supply-low timer; none while it does not run (R153). -/
  supplyFrom : Option Nat
  temp : Int
  warm : Bool
  det : Detector
  deriving DecidableEq, Repr

/-! ### Overlay unit (08_identify_overlay.md) -/

/-- The overlay's letters (R159). -/
inductive Letter where
  | m | l | j | a | r | d | c
  deriving DecidableEq, Repr

/-- The overlay unit: end of identify mode (0 when the timer is 0), the latched pair, and whether it is drawn (R162, R163). -/
structure Ovl where
  identifyUntil : Nat
  latched : Option (StationNo × Letter)
  drawn : Bool
  deriving DecidableEq, Repr

/-! ### Lag meter (09_lag_meter.md) -/

/-- Qualifier of a counter (R170). -/
inductive Qualifier where
  | plain | threshold | edge
  deriving DecidableEq, Repr

/-- Overflow action of a counter (R171). -/
inductive OvfAction where
  | none | localStop | groupStop
  deriving DecidableEq, Repr

/-- A programmable counter with its settings and edge memory (R168). -/
structure Counter where
  value : Count40
  select : Nat
  qual : Qualifier
  threshold : Nat
  invert : Bool
  action : OvfAction
  met : Bool
  deriving DecidableEq, Repr

/-- Last freeze cause (R174). -/
inductive FreezeCause where
  | reset | localCmd | group | overflow
  deriving DecidableEq, Repr

/-- Fate of the last own COUNT (R175). -/
inductive CountOutcome where
  | none | waiting | sent | completed | dropped | withdrawn
  deriving DecidableEq, Repr

/-- A record of the group action list (R177); the freeze part is true for FREEZE, false for THAW. -/
structure ActionRec where
  effective : Epoch
  freeze : Option Bool
  clear : Bool
  deriving DecidableEq, Repr

/-- The lag meter (R168 to R179). `ovf` holds the overflow flags of C0 to C3, FRAMES, REPEATS, LAG_SUM in bits 0 to 6. -/
structure Lag where
  c0 : Counter
  c1 : Counter
  c2 : Counter
  c3 : Counter
  frames : Count40
  repeats : Count40
  lagSum : Count40
  lagMax : BitVec 24
  ovf : BitVec 7
  frozen : Bool
  cause : FreezeCause
  actions : List ActionRec
  outcome : CountOutcome
  deriving DecidableEq, Repr

/-! ### Configuration loader (10_configuration_memory_and_panel_profiles.md) -/

/-- Configuration fault code (R183), 0 to 8 in this order. -/
inductive FaultCode where
  | none | signature | version | imageCrc | fieldRange | profileLimit | window | framePeriod | strobe
  deriving DecidableEq, Repr

/-- The loader: the image copy, whether this BOOT has read it, the fault code and the slot counts (R181, R185, R187). -/
structure Ldr where
  image : List Byte
  imageRead : Bool
  fault : FaultCode
  applied : Nat
  ignored : Nat
  deriving DecidableEq, Repr

/-- A panel profile, each field in the unit of a substitution slot (R184): line period in 10 ns, minimum frame period and
holds in 10 µs, strobe delay and widths in µs. -/
structure Profile where
  w : Nat
  h : Nat
  period : Nat
  minPeriod : Nat
  cold : Nat
  hot : Nat
  delay : Nat
  coldStrobe : Nat
  hotStrobe : Nat
  deriving DecidableEq, Repr

/-- The configuration handed over at the end of BOOT (R186). -/
structure Cfg where
  left : Nat
  top : Nat
  profile : Profile
  marginBase : Nat
  col : BitVec 2
  row : BitVec 2
  followWake : Bool
  identifySecs : Nat
  deriving DecidableEq, Repr

/-! ### Service port (11_service_port_and_format_tables.md) -/

/-- The bytes of one value with the address that names it: the snapshot latch (R189), the holding register (R190). -/
structure Held where
  base : Nat
  bytes : List Byte
  deriving DecidableEq, Repr

/-- The service port (R188 to R195). `readData` is the byte last returned on SDA. -/
structure Port where
  ptr : Byte
  latch : Option Held
  holding : Option Held
  flags : BitVec 11
  masks : BitVec 11
  arg : Byte
  cmdRefused : Bool
  lastCmd : BitVec 4
  imageIdx : BitVec 6
  readData : Byte
  deriving DecidableEq, Repr

/-! ### The standing judgements (log 19) -/

/-- What the judgements that follow every command leave behind: whether the standby condition held when it was last judged
(R142), and whether the minimum-period wait since the last scan start is still to be judged (R52, log 12). -/
structure Judged where
  standby : Bool
  period : Bool
  deriving DecidableEq, Repr

/-! ### The whole -/

/-- The state of the part: the clock in ns (log 1), the queue of commands (log 2), the blocks, and the notes of the
standing judgements. -/
structure State where
  now : Nat
  pending : List Instr
  src : Src
  lq : Lq
  mem : Mem
  scan : Scan
  bus : Bus
  grp : Grp
  ctl : Ctl
  ovl : Ovl
  lag : Lag
  ldr : Ldr
  cfg : Cfg
  port : Port
  judged : Judged
  deriving DecidableEq, Repr

/-- The part has no condition that stops it: every error the spec describes is state. -/
inductive Fault
  deriving DecidableEq, Repr

/-- Why a command is refused by the model. -/
inductive Refusal where
  /-- A command without a meaning yet; raised by an arm of exec. Safe: nothing is claimed about it. -/
  | notModelled (mnemonic : String)
  deriving DecidableEq, Repr

/-! ### Values after reset -/

/-- R22, R3. -/
def Src.reset : Src :=
  { lock := .search, width := 0, height := 0, fails := 0, frameOpen := false, silenceFrom := none, lastTag := 0,
    tagKnown := false, variableCadence := false, serial := 0, raster := none, skips := 0, gateFrom := none, running := 0,
    wrapped := false, inUse := none, result := .none, line := none, fill := none, lateMark := false }

/-- R43. -/
def Lq.reset : Lq := { ring := [], outPtr := 0, overrun := false, writer := .idle, staging := none }

/-- R41, R43. -/
def Mem.reset : Mem := { tile := [], map := [] }

/-- A timing set before the end of BOOT loads it (log 6). -/
def Timing.zero : Timing := { period := 0, rows := 0, delay := 0, strobe := 0 }

/-- R45, as far as it does not wait for the end of BOOT. -/
def Scan.reset : Scan :=
  { st := .dark, lastStart := none, prog := none, shown := none, waiting := none, overtake := false, margin := 0,
    cleanRun := 0, ownLead := 0, holdInUse := 0, repeatMark := false, lastLag := 0, owed := false,
    idlePass := none, active := Timing.zero, shadow := Timing.zero, strobe := .off,
    lastRow := none }

/-- R82: every slot EMPTY. -/
def TxQueue.empty : TxQueue :=
  { rep := none, refuse := none, leave := none, join := none, status := none, wake := none, standby := none,
    count := none, ident := none }

/-- R92. -/
def Bus.reset : Bus :=
  { engine := .off, idleCount := 0, q := TxQueue.empty, reg := none, holdoff := none, mute := .enabled, muteCount := 0,
    muteAges := [], recessiveFrom := none, runFrom := none, muteFrom := none, startEpoch := 0, bitTime := 1000,
    nakDriven := false }

/-- R116, R117, R136. The group hold is R125's value of an empty table: the minimum frame period, 0 before the end of BOOT,
+ 500 µs. -/
def Grp.reset : Grp :=
  { membership := .outside, peers := [], listenEnd := none, listenAdopted := false, ownWindowEnd := none, refusal := none,
    dupLatch := false, epoch := 0, admMark := none, outOfStep := false, cleanEpochs := 0, lastRepeat := .none,
    ownInUse := none, ownPend := none, groupLead := 0, groupHold := 50 }

/-- R158, R138, R194: every reset enters BOOT (log 5). -/
def Ctl.reset : Ctl :=
  { st := .boot, held := false, resetLow := false, bootFrom := 0, resetCause := .power, station := 0, strapPins := 0,
    departure := none, standbyPending := false, sleepCause := .none, wakeCause := .none, forcedListen := false,
    sleepFails := 0, silentFrom := none, senseLow := false, supplyFrom := none, temp := 0, warm := false, det := .off }

/-- R167. -/
def Ovl.reset : Ovl := { identifyUntil := 0, latched := none, drawn := false }

/-- R168. -/
def Counter.reset : Counter :=
  { value := 0, select := 0, qual := .plain, threshold := 0, invert := false, action := .none, met := false }

/-- R168. -/
def Lag.reset : Lag :=
  { c0 := Counter.reset, c1 := Counter.reset, c2 := Counter.reset, c3 := Counter.reset, frames := 0, repeats := 0,
    lagSum := 0, lagMax := 0, ovf := 0, frozen := true, cause := .reset, actions := [], outcome := .none }

/-- R187. -/
def Ldr.reset : Ldr := { image := [], imageRead := false, fault := .none, applied := 0, ignored := 0 }

/-- A profile before the end of BOOT hands one over (log 6). -/
def Profile.zero : Profile :=
  { w := 0, h := 0, period := 0, minPeriod := 0, cold := 0, hot := 0, delay := 0, coldStrobe := 0, hotStrobe := 0 }

/-- The configuration before the end of BOOT (log 6). -/
def Cfg.reset : Cfg :=
  { left := 0, top := 0, profile := Profile.zero, marginBase := 0, col := 0, row := 0, followWake := false,
    identifySecs := 0 }

/-- R188 to R192, R194. -/
def Port.reset : Port :=
  { ptr := 0, latch := none, holding := none, flags := 0, masks := 0, arg := 0, cmdRefused := false, lastCmd := 0,
    imageIdx := 0, readData := 0 }

/-- Nothing is judged yet (log 6). -/
def Judged.reset : Judged := { standby := false, period := false }

/-- The part right after a power reset, BOOT just begun (R138, R180, log 5). -/
def State.reset : State :=
  { now := 0, pending := [], src := Src.reset, lq := Lq.reset, mem := Mem.reset, scan := Scan.reset, bus := Bus.reset,
    grp := Grp.reset, ctl := Ctl.reset, ovl := Ovl.reset, lag := Lag.reset, ldr := Ldr.reset, cfg := Cfg.reset,
    port := Port.reset, judged := Judged.reset }

end Sys2Proof.Machine
end

