-- ==== Sys2Proof/Machine/Ops.lean ====
section
/-! DEFINITION. The operations every command is built from: changing one block, moving the clock, service-port flags, and the transmit queue's slots. -/

namespace Sys2Proof.Machine

/-- What a command answers. -/
abbrev Answer := Host.Outcome State Fault Refusal

/-- Changes the source receiver alone. -/
def State.modSrc (s : State) (f : Src → Src) : State := { s with src := f s.src }

/-- Changes the line queue and tile writer alone. -/
def State.modLq (s : State) (f : Lq → Lq) : State := { s with lq := f s.lq }

/-- Changes the tile memory and row map alone. -/
def State.modMem (s : State) (f : Mem → Mem) : State := { s with mem := f s.mem }

/-- Changes the scan engine alone. -/
def State.modScan (s : State) (f : Scan → Scan) : State := { s with scan := f s.scan }

/-- Changes the bus interface alone. -/
def State.modBus (s : State) (f : Bus → Bus) : State := { s with bus := f s.bus }

/-- Changes the group controller alone. -/
def State.modGrp (s : State) (f : Grp → Grp) : State := { s with grp := f s.grp }

/-- Changes the station controller alone. -/
def State.modCtl (s : State) (f : Ctl → Ctl) : State := { s with ctl := f s.ctl }

/-- Changes the overlay unit alone. -/
def State.modOvl (s : State) (f : Ovl → Ovl) : State := { s with ovl := f s.ovl }

/-- Changes the lag meter alone. -/
def State.modLag (s : State) (f : Lag → Lag) : State := { s with lag := f s.lag }

/-- Changes the configuration loader alone. -/
def State.modLdr (s : State) (f : Ldr → Ldr) : State := { s with ldr := f s.ldr }

/-- Changes the configuration in use alone. -/
def State.modCfg (s : State) (f : Cfg → Cfg) : State := { s with cfg := f s.cfg }

/-- Changes the service port alone. -/
def State.modPort (s : State) (f : Port → Port) : State := { s with port := f s.port }

/-- Changes the notes of the standing judgements alone. -/
def State.modJudged (s : State) (f : Judged → Judged) : State := { s with judged := f s.judged }

/-- The clock at a command's moment; it never goes back (log 1). -/
def State.advance (s : State) (t : Nat) : State := { s with now := max s.now t }

/-- Applies `f` when `p` holds. -/
def whenever (p : Bool) (f : State → State) (s : State) : State := if p then f s else s

/-- A count of fixed width that stops at its largest value (R11, R88). -/
def satInc {w : Nat} (x : BitVec w) : BitVec w := if x = BitVec.allOnes w then x else x + 1#w

/-- Station numbers key the peer table as plain numbers. -/
def State.own (s : State) : Nat := s.ctl.station.toNat

/-- Whether a moment `from` is set and at least `d` ns have passed since it. -/
def passed (start : Option Nat) (d now : Nat) : Bool :=
  match start with
  | none => false
  | some t => decide (t + d ≤ now)

/-- Whether the end of a window is set and reached. -/
def reached (stop : Option Nat) (now : Nat) : Bool := passed stop 0 now

/-! ### Service-port flags (R191) -/

/-- The eleven flags, in the order of their bits at 0x10 and 0x11 (R195). -/
inductive Flag where
  | membershipChanged | refused | duplicate | busLost | muted | warm | overheat | sourceLost
  | counterOverflow | configFault | woke
  deriving DecidableEq, Repr

/-- A flag's bit (R195). -/
def Flag.bit : Flag → Nat
  | .membershipChanged => 0 | .refused => 1 | .duplicate => 2 | .busLost => 3 | .muted => 4 | .warm => 5
  | .overheat => 6 | .sourceLost => 7 | .counterOverflow => 8 | .configFault => 9 | .woke => 10

/-- Sets a flag; it stays set until software clears it (R191). -/
def setFlag (f : Flag) (s : State) : State :=
  s.modPort fun p => { p with flags := p.flags ||| BitVec.twoPow 11 f.bit }

/-! ### Notice kinds and the transmit queue (R72, R82 to R85) -/

/-- A kind's code (R72). -/
def Kind.code : Kind → Nat
  | .rep => 1 | .refuse => 2 | .leave => 3 | .join => 4 | .status => 5 | .wake => 6 | .standby => 7 | .count => 8
  | .ident => 9

/-- The kinds in rising code. -/
def Kind.all : List Kind := [.rep, .refuse, .leave, .join, .status, .wake, .standby, .count, .ident]

/-- The slot of a kind. -/
def TxQueue.get (q : TxQueue) : Kind → Option Queued
  | .rep => q.rep | .refuse => q.refuse | .leave => q.leave | .join => q.join | .status => q.status | .wake => q.wake
  | .standby => q.standby | .count => q.count | .ident => q.ident

/-- The queue with a kind's slot changed. -/
def TxQueue.set (q : TxQueue) (k : Kind) (v : Option Queued) : TxQueue :=
  match k with
  | .rep => { q with rep := v } | .refuse => { q with refuse := v } | .leave => { q with leave := v }
  | .join => { q with join := v } | .status => { q with status := v } | .wake => { q with wake := v }
  | .standby => { q with standby := v } | .count => { q with count := v } | .ident => { q with ident := v }

/-- Sets or empties a slot. -/
def setSlot (k : Kind) (v : Option Queued) (s : State) : State :=
  s.modBus fun b => { b with q := b.q.set k v }

/-- The fate of the last own COUNT (R175). -/
def setOutcome (o : CountOutcome) (s : State) : State := s.modLag fun l => { l with outcome := o }

/-- Queues a notice as NEW, in place of one waiting (R82). A COUNT's outcome becomes WAITING (R175). -/
def queueNotice (k : Kind) (payload : List Byte) (epoch : Option Epoch) (s : State) : State :=
  whenever (k == .count) (setOutcome .waiting)
    (setSlot k (some { payload := payload, fails := 0, epoch := epoch }) s)

/-- Withdraws a notice of a kind whose start bit has not been sent: out of its slot, and nothing else (R60, R127). A notice
in the transmit register is not touched, so no withdrawal is remembered for it. -/
def withdrawUnsent (k : Kind) (s : State) : State := setSlot k none s

/-- Withdraws the notice of a kind (R84): out of its slot at once, or remembered while its attempt runs. A COUNT whose attempt
runs stays SENT until it ends (DESIGN CHOICE, log 45). -/
def withdraw (k : Kind) (s : State) : State :=
  let marked := s.modBus fun b =>
    { b with
      q := b.q.set k none
      reg := match b.reg with
        | some r => some (if r.kind = k then { r with withdrawn := true } else r)
        | none => none }
  whenever (k == .count && (s.bus.q.get k).isSome) (setOutcome .withdrawn) marked

/-! ### Departure reasons (R141, 11.6) -/

/-- The LEAVE reason byte of a departure (11.6). -/
def DepReason.leaveByte : DepReason → Byte
  | .sleep => 1 | .heat => 2 | .supply => 3

/-- A LEAVE with payload `p` has ended: it ends the departure's LEAVE if it carries its reason (R141). -/
def leaveEnded (p : List Byte) (s : State) : State :=
  s.modCtl fun c =>
    { c with departure := match c.departure with
        | some d => some (if p = [d.reason.leaveByte] then { d with leaveEnded := true } else d)
        | none => none }

/-- Empties the transmit queue and tells each queuer (R85): a COUNT removed is WITHDRAWN (R175), a departure's waiting LEAVE
has ended (R141). The register is the caller's. -/
def emptyQueue (s : State) : State :=
  let told := whenever s.bus.q.count.isSome (setOutcome .withdrawn) s
  let told := match s.bus.q.leave with
    | some n => leaveEnded n.payload told
    | none => told
  told.modBus fun b => { b with q := TxQueue.empty }

/-! ### Conditions many rules read -/

/-- A scan is in progress (R45). -/
def State.scanning (s : State) : Bool := s.scan.prog.isSome

/-- The driver is enabled (R70). -/
def State.driverEnabled (s : State) : Bool :=
  (s.ctl.st == .run || s.ctl.st == .standby) && s.bus.mute == .enabled &&
    s.grp.membership != .listener && s.grp.membership != .duplicate

/-- RUN with no departure pending. -/
def State.freeRun (s : State) : Bool := s.ctl.st == .run && s.ctl.departure.isNone

/-- STANDBY with no departure pending. -/
def State.freeStandby (s : State) : Bool := s.ctl.st == .standby && s.ctl.departure.isNone

/-- The peer table is kept in this membership state (R93). -/
def State.tableKept (s : State) : Bool := s.grp.membership != .outside && s.grp.membership != .alone

/-- JOINING or MEMBER: the states with role notices (R93). -/
def Membership.active : Membership → Bool
  | .joining | .member => true
  | _ => false

/-- The service port responds (R188). -/
def State.responding (s : State) : Bool := s.ctl.st != .off && s.ctl.st != .boot

/-- The detector runs while the station sleeps (R147). -/
def State.wakeListening (s : State) : Bool := s.ctl.st == .sleep && (s.cfg.followWake || s.ctl.forcedListen)

/-- The own hold (R58), in 10 µs units. -/
def State.ownHold (s : State) : Nat :=
  max (if s.ctl.warm then s.cfg.profile.hot else s.cfg.profile.cold) (s.cfg.profile.minPeriod + 50)

/-- The five flags as they stand (R120). -/
def State.ownFlags (s : State) : AnnFlags :=
  { sourceLost := s.src.lock != .locked
    warm := s.ctl.warm
    overrun := s.lq.overrun
    outOfStep := s.grp.outOfStep
    marginUp := decide (s.cfg.marginBase < s.scan.margin) }

/-- The lead in use (R51). -/
def State.leadInUse (s : State) : Nat :=
  if s.grp.membership = .member then s.grp.groupLead else s.scan.ownLead

/-- The minimum frame period in ns (R52). -/
def State.minPeriod (s : State) : Nat := s.cfg.profile.minPeriod * 10 * us

/-- The minimum frame period has passed since the last scan start (R52). -/
def State.periodPassed (s : State) : Bool :=
  match s.scan.lastStart with
  | none => true
  | some t => decide (t + s.minPeriod ≤ s.now)

end Sys2Proof.Machine
end

