-- ==== Sys2Proof/Machine/Operands.lean ====
section
/-! DEFINITION. The forms of the commands' operands: marks, notice payloads and the bytes of the service port, read and written as 11.5 and 11.6 lay them out. -/

namespace Sys2Proof.Machine

/-! ### Source marks (11.5, R196) -/

/-- Two bytes, the high one first. -/
def beWord (hi lo : Byte) : BitVec 16 := hi ++ lo

/-- What a well-formed FS carries (R1). -/
structure FsMark where
  tag : Byte
  width : Nat
  height : Nat
  variableCadence : Bool
  deriving DecidableEq, Repr

/-- The ranges of R1. -/
def geometryOk (w h : Nat) : Bool :=
  decide (64 ≤ w) && decide (w ≤ 8192) && decide (64 ≤ h) && decide (h ≤ 4095)

/-- Reads an FS mark; none when it is malformed (R1, R196). -/
def readFs : List Byte → Option FsMark
  | [_, tag, w1, w0, h1, h0, f] =>
    let w := (beWord w1 w0).toNat
    let h := (beWord h1 h0).toNat
    if geometryOk w h then some { tag := tag, width := w, height := h, variableCadence := f.getLsbD 0 } else none
  | _ => none

/-- Reads an LS mark's 12-bit index, the upper four bits ignored; none when its length is not 3 (R2, R196). -/
def readLs : List Byte → Option Nat
  | [_, i1, i0] => some ((beWord i1 i0).setWidth 12).toNat
  | _ => none

/-! ### Notice payloads (11.6) -/

/-- The bytes of a number of `n` bytes, the highest first. -/
def beBytes (n : Nat) (v : Nat) : List Byte :=
  match n with
  | 0 => []
  | k + 1 => BitVec.ofNat 8 (v / 2 ^ (8 * k)) :: beBytes k v

/-- The bytes of a number of `n` bytes, the lowest first (R189). -/
def leBytes (n : Nat) (v : Nat) : List Byte :=
  match n with
  | 0 => []
  | k + 1 => BitVec.ofNat 8 v :: leBytes k (v / 256)

/-- The number that bytes spell, the lowest first. -/
def leNat : List Byte → Nat
  | [] => 0
  | b :: rest => b.toNat + 256 * leNat rest

/-- A JOIN's payload as 56 bits (11.6). -/
def JoinRec.encode (j : JoinRec) : BitVec 56 :=
  j.col ++ j.row ++ j.top ++ j.rows ++ j.period ++ j.minPeriod ++ 0#1

/-- Reads a JOIN's payload; the fill bit is not judged (R197). -/
def JoinRec.decode (p : BitVec 56) : JoinRec :=
  { col := p.extractLsb' 54 2
    row := p.extractLsb' 52 2
    top := p.extractLsb' 40 12
    rows := p.extractLsb' 29 11
    period := p.extractLsb' 17 12
    minPeriod := p.extractLsb' 1 16 }

/-- The five flags as bits, SOURCE_LOST first (11.6). -/
def AnnFlags.encode (f : AnnFlags) : BitVec 5 :=
  BitVec.ofBool f.sourceLost ++ BitVec.ofBool f.warm ++ BitVec.ofBool f.overrun ++ BitVec.ofBool f.outOfStep ++
    BitVec.ofBool f.marginUp

/-- Reads the five flags. -/
def AnnFlags.decode (b : BitVec 5) : AnnFlags :=
  { sourceLost := b.getLsbD 4, warm := b.getLsbD 3, overrun := b.getLsbD 2, outOfStep := b.getLsbD 1,
    marginUp := b.getLsbD 0 }

/-- A STATUS payload as 32 bits (11.6). -/
def Ann.encode (a : Ann) : BitVec 32 := a.lead ++ a.flags.encode ++ a.hold

/-- Reads a STATUS payload (R120). -/
def Ann.decode (p : BitVec 32) : Ann :=
  { lead := p.extractLsb' 21 11, flags := AnnFlags.decode (p.extractLsb' 16 5), hold := p.extractLsb' 0 16 }

/-- A refusal reason's code (R195). -/
def Reason.code : Reason → BitVec 2
  | .tileTaken => 1 | .band => 2 | .geometry => 3

/-- A REFUSE's payload byte (11.6). -/
def refuseByte (target : Nat) (r : Reason) : Byte := BitVec.ofNat 4 target ++ 0#2 ++ r.code

/-- The target a REFUSE names (11.6). -/
def refuseTarget (b : Byte) : Nat := (b.extractLsb' 4 4).toNat

/-- The reason a REFUSE gives (11.6, R197). -/
def refuseReason (b : Byte) : BitVec 2 := b.extractLsb' 0 2

/-- A COUNT action (11.6). -/
inductive CountAction where
  | freeze | thaw | clear
  deriving DecidableEq, Repr

/-- A COUNT's action byte (11.6). -/
def CountAction.byte : CountAction → Byte
  | .freeze => 1 | .thaw => 2 | .clear => 3

/-- Reads a COUNT's action byte; other values apply nothing (R197). -/
def CountAction.read (b : Byte) : Option CountAction :=
  if b = 1 then some .freeze else if b = 2 then some .thaw else if b = 3 then some .clear else none

/-- The station's own record, as its JOIN carries it (R98, R186). -/
def State.ownRecord (s : State) : JoinRec :=
  { col := s.cfg.col, row := s.cfg.row, top := BitVec.ofNat 12 s.cfg.top, rows := BitVec.ofNat 11 s.cfg.profile.h,
    period := BitVec.ofNat 12 s.cfg.profile.period, minPeriod := BitVec.ofNat 16 s.cfg.profile.minPeriod }

/-- The announcement the station would make now (R120). -/
def State.ownAnnouncement (s : State) : Ann :=
  { lead := BitVec.ofNat 11 s.scan.ownLead, flags := s.ownFlags, hold := BitVec.ofNat 16 s.ownHold }

/-- Whether a run lies from 8 µs to 20 µs (R87, R148). -/
def runOk (r : Nat) : Bool := decide (8 * us ≤ r) && decide (r ≤ 20 * us)

/-- The three runs make a pattern (R87, R148). -/
def patternOk (r1 r2 r3 : Nat) : Bool := runOk r1 && runOk r2 && runOk r3

end Sys2Proof.Machine
end

