-- ==== Sys2Proof/Machine/Notice.lean ====
section
/-! DEFINITION. Checks and bits: CRC-16 of lines and of the image, CRC-8 of notices, bit stuffing, and the bits of a notice on the wire. -/

namespace Sys2Proof.Machine

/-- One bit into a CRC-16 with generator x^16 + x^12 + x^5 + 1 (R2, R182). -/
def crc16Bit (crc : BitVec 16) (b : Bool) : BitVec 16 :=
  if (crc.getLsbD 15 != b) then (crc <<< 1) ^^^ 0x1021#16 else crc <<< 1

/-- One byte into the CRC-16, most significant bit first. -/
def crc16Byte (crc : BitVec 16) (b : Byte) : BitVec 16 :=
  [7, 6, 5, 4, 3, 2, 1, 0].foldl (fun c i => crc16Bit c (b.getLsbD i)) crc

/-- The CRC-16 of bytes from a starting value. -/
def crc16 (crc : BitVec 16) (bs : List Byte) : BitVec 16 := bs.foldl crc16Byte crc

/-- The line check after the two index bytes (R2). -/
def lineCrcStart (index : Nat) : BitVec 16 := crc16 0xFFFF#16 (beBytes 2 index)

/-- One bit into a CRC-8 with generator x^8 + x^2 + x + 1 (R74). -/
def crc8Bit (crc : BitVec 8) (b : Bool) : BitVec 8 :=
  if (crc.getLsbD 7 != b) then (crc <<< 1) ^^^ 0x07#8 else crc <<< 1

/-- The CRC-8 of bits, from 0x00 (R74). -/
def crc8 (bits : List Bool) : BitVec 8 := bits.foldl crc8Bit 0x00#8

/-- The `w` bits of a number, most significant first; true is a 1 bit, sent recessive (R72). -/
def bitsOf (w v : Nat) : List Bool :=
  match w with
  | 0 => []
  | k + 1 => v.testBit k :: bitsOf k v

/-- The bits of bytes in order. -/
def byteBits : List Byte → List Bool
  | [] => []
  | b :: rest => bitsOf 8 b.toNat ++ byteBits rest

/-- Kind, station, epoch, length and payload: the bits the check covers (R72, R74). -/
def coveredBits (code station : Nat) (epoch : Epoch) (payload : List Byte) : List Bool :=
  bitsOf 4 code ++ bitsOf 4 station ++ bitsOf 8 epoch.toNat ++ bitsOf 3 payload.length ++ byteBits payload

/-- Stuffing (R73): after five equal bits one of the other level, which begins the next run. -/
def stuffFrom (last : Bool) (run : Nat) : List Bool → List Bool
  | [] => []
  | b :: rest =>
    let n := if b = last then run + 1 else 1
    if n = 5 then b :: (!b) :: stuffFrom (!b) 1 rest else b :: stuffFrom b n rest

/-- Stuffing from the start bit on. -/
def stuff (bits : List Bool) : List Bool := stuffFrom true 0 bits

/-- The start bit, the covered bits and the check, before stuffing (R72). -/
def rawBits (code station : Nat) (epoch : Epoch) (payload : List Byte) : List Bool :=
  let covered := coveredBits code station epoch payload
  false :: covered ++ bitsOf 8 (crc8 covered).toNat

/-- The stuffed range of a notice on the wire (R73). -/
def noticeBits (code station : Nat) (epoch : Epoch) (payload : List Byte) : List Bool :=
  stuff (rawBits code station epoch payload)

/-- The number of bits of the stuffed range up to the end of the station field (R76, R77). A stuff bit that directly follows
the field's last bit counts as within it (DESIGN CHOICE, log 36). -/
def stationFieldEnd (code station : Nat) : Nat :=
  (stuff (false :: bitsOf 4 code ++ bitsOf 4 station)).length

/-- The recessive bits at the end of a stretch (R69). -/
def trailing (bits : List Bool) : Nat := bits.foldl (fun n b => if b then n + 1 else 0) 0

/-- The bits read from a notice's start bit to its end: its stuffed range, its NAK slot and its end bits (R72). -/
def readToEnd (bits : List Bool) (nak : Bool) (ends : BitVec 7) : List Bool := bits ++ (!nak) :: bitsOf 7 ends.toNat

/-- The recessive bits that end a notice (R69, log 10). -/
def endRun (bits : List Bool) (nak : Bool) (ends : BitVec 7) : Nat := trailing (readToEnd bits nak ends)

/-- The dominant bits at the end of a stretch (R90). -/
def trailingLow (bits : List Bool) : Nat := trailing (bits.map (!·))

/-- The dominant bits that end an own attempt, the NAK slot and the end bits alone: before them the station's own driver
pulled the wire, or the wire read recessive (R72, R90). -/
def endLow (nak : Bool) (ends : BitVec 7) : Nat := trailingLow (readToEnd [] nak ends)

/-- Seven recessive end bits (R72). -/
def cleanEnds : BitVec 7 := BitVec.allOnes 7

end Sys2Proof.Machine
end

