-- ==== Sys2Proof/Machine/LagMeter.lean ====
section
/-! DEFINITION. The lag meter: events and how the counters take them (R169 to R172), clears and freezes (R174), and the group action list (R176 to R178). -/

namespace Sys2Proof.Machine

/-- The events of R169. A sample carries its value, FRAMES_SHOWN its lag. -/
inductive Event where
  | linesIn | linesBad | linesDropped
  | queueOccupancy (v : Nat) | queueFull (v : Nat)
  | rowsStale | repeats | framesShown (lag : Nat) | framesSkipped | noticesSent | arbLosses | noticeErrors
  | retriesExhausted | groupLeadChanges | stepSlips | minPeriodWaits
  deriving DecidableEq, Repr

/-- An event's code (R169). -/
def Event.code : Event → Nat
  | .linesIn => 1 | .linesBad => 2 | .linesDropped => 3 | .queueOccupancy _ => 4 | .queueFull _ => 5 | .rowsStale => 6
  | .repeats => 7 | .framesShown _ => 8 | .framesSkipped => 9 | .noticesSent => 10 | .arbLosses => 11
  | .noticeErrors => 12 | .retriesExhausted => 13 | .groupLeadChanges => 14 | .stepSlips => 15 | .minPeriodWaits => 16

/-- The counter's select names the event; 0 names none (R169). -/
def Counter.sees (c : Counter) (e : Event) : Bool := c.select == e.code

/-- The condition of a sample (R170); none for an occurrence. -/
def Counter.condition (c : Counter) : Event → Option Bool
  | .queueOccupancy v => some (decide (c.threshold ≤ v))
  | .queueFull v => some (decide (v = 48))
  | _ => none

/-- What a counted sample with condition `m` adds under THRESHOLD (`edge` false) or EDGE (R170). -/
def Counter.sampleAdds (c : Counter) (m edge : Bool) : Nat :=
  if (m != c.invert) && (!edge || (c.met == c.invert)) then 1 else 0

/-- What an event adds to a counter that sees it (R170). -/
def Counter.adds (c : Counter) (e : Event) : Nat :=
  match e with
  | .queueOccupancy v =>
    match c.qual with
    | .plain => if c.invert then 48 - v else v
    | .threshold => c.sampleAdds (decide (c.threshold ≤ v)) false
    | .edge => c.sampleAdds (decide (c.threshold ≤ v)) true
  | .queueFull v => c.sampleAdds (decide (v = 48)) (c.qual == .edge)
  | _ => 1

/-- A 40-bit addition leaves the sum modulo 2^40 (R171). -/
def plus40 (x : Count40) (n : Nat) : Count40 := x + BitVec.ofNat 40 n

/-- Whether that addition wraps (R171). -/
def wraps (x : Count40) (n : Nat) : Bool := decide (2 ^ 40 ≤ x.toNat + n)

/-- What the event adds to the counter, given the frozen state (R174). -/
def Counter.gain (c : Counter) (frozen : Bool) (e : Event) : Nat :=
  if frozen || !c.sees e then 0 else c.adds e

/-- The counter after an event (R170): the edge memory follows every sample seen, frozen or not. -/
def Counter.take (c : Counter) (frozen : Bool) (e : Event) : Counter :=
  { c with
    value := plus40 c.value (c.gain frozen e)
    met := if c.sees e then (c.condition e).getD c.met else c.met }

/-- Whether the counter wraps at the event. -/
def Counter.wrapsAt (c : Counter) (frozen : Bool) (e : Event) : Bool := wraps c.value (c.gain frozen e)

/-- What the event adds to FRAMES, REPEATS and LAG_SUM while COUNTING (R172). -/
def Event.fixedGain : Event → Nat × Nat × Nat
  | .framesShown lag => (1, 0, lag)
  | .repeats => (0, 1, 0)
  | _ => (0, 0, 0)

/-- The same, given the frozen state. -/
def Lag.fixedGain (l : Lag) (e : Event) : Nat × Nat × Nat := if l.frozen then (0, 0, 0) else e.fixedGain

/-- LAG_MAX after the event (R172). -/
def Lag.maxAfter (l : Lag) (e : Event) : BitVec 24 :=
  match e with
  | .framesShown lag => if !l.frozen && decide (l.lagMax.toNat < lag) then BitVec.ofNat 24 lag else l.lagMax
  | _ => l.lagMax

/-- The counters that wrap at the event, as the overflow flags number them: C0 to C3, FRAMES, REPEATS, LAG_SUM. -/
def Lag.wrapBits (l : Lag) (e : Event) : BitVec 7 :=
  let g := l.fixedGain e
  BitVec.ofBool (wraps l.lagSum g.2.2) ++ BitVec.ofBool (wraps l.repeats g.2.1) ++ BitVec.ofBool (wraps l.frames g.1) ++
    BitVec.ofBool (l.c3.wrapsAt l.frozen e) ++ BitVec.ofBool (l.c2.wrapsAt l.frozen e) ++
    BitVec.ofBool (l.c1.wrapsAt l.frozen e) ++ BitVec.ofBool (l.c0.wrapsAt l.frozen e)

/-- Some programmable counter that wraps at the event has an action for which `p` holds (R171). -/
def Lag.wrapAction (l : Lag) (e : Event) (p : OvfAction → Bool) : Bool :=
  (l.c0.wrapsAt l.frozen e && p l.c0.action) || (l.c1.wrapsAt l.frozen e && p l.c1.action) ||
    (l.c2.wrapsAt l.frozen e && p l.c2.action) || (l.c3.wrapsAt l.frozen e && p l.c3.action)

/-- The lag meter after an event (R169 to R172): every counter sees the frozen state before the event, and a freeze that a
wrap causes applies from the next one. -/
def Lag.take (l : Lag) (e : Event) : Lag :=
  let g := l.fixedGain e
  let stop := l.wrapAction e (· != .none)
  { l with
    c0 := l.c0.take l.frozen e
    c1 := l.c1.take l.frozen e
    c2 := l.c2.take l.frozen e
    c3 := l.c3.take l.frozen e
    frames := plus40 l.frames g.1
    repeats := plus40 l.repeats g.2.1
    lagSum := plus40 l.lagSum g.2.2
    lagMax := l.maxAfter e
    ovf := l.ovf ||| l.wrapBits e
    frozen := l.frozen || stop
    cause := if stop then .overflow else l.cause }

/-- Queues a COUNT (R175). -/
def queueCount (a : CountAction) (s : State) : State := queueNotice .count [a.byte] none s

/-- An event at the lag meter (R169): the counters take it; a wrap sets COUNTER_OVERFLOW, and a GROUP_STOP wrap of a MEMBER
queues COUNT(FREEZE) (R171). -/
def raise (e : Event) (s : State) : State :=
  let taken := s.modLag fun l => l.take e
  let flagged := whenever (s.lag.wrapBits e != 0) (setFlag .counterOverflow) taken
  whenever (s.lag.wrapAction e (· == .groupStop) && s.grp.membership == .member) (queueCount .freeze) flagged

/-- A freeze or a thaw, with its cause (R174). -/
def setFrozen (frozen : Bool) (cause : FreezeCause) (s : State) : State :=
  s.modLag fun l => { l with frozen := frozen, cause := cause }

/-- A clear (R174): settings, edge memories and frozen state stay. -/
def clearCounters (s : State) : State :=
  s.modLag fun l =>
    { l with
      c0 := { l.c0 with value := 0 }, c1 := { l.c1 with value := 0 }, c2 := { l.c2 with value := 0 },
      c3 := { l.c3 with value := 0 }, frames := 0, repeats := 0, lagSum := 0, lagMax := 0, ovf := 0 }

/-- Applies one record: the clear, then the freeze part (R178). -/
def applyRecord (r : ActionRec) (s : State) : State :=
  let cleared := whenever r.clear clearCounters s
  match r.freeze with
  | some f => setFrozen f .group cleared
  | none => cleared

/-- A record with a COUNT's action joined to it (R177). -/
def ActionRec.join (r : ActionRec) : CountAction → ActionRec
  | .freeze => { r with freeze := some true }
  | .thaw => { r with freeze := some false }
  | .clear => { r with clear := true }

/-- The list with an action joined at an effective epoch (R177). -/
def joinActions (e : Epoch) (a : CountAction) : List ActionRec → List ActionRec
  | [] => [ActionRec.join { effective := e, freeze := none, clear := false } a]
  | r :: rest => if r.effective = e then r.join a :: rest else r :: joinActions e a rest

/-- An action with epoch field `c` (R176): to the list when c + 2 is one or two increments ahead, else applied at once. -/
def takeCount (c : Epoch) (a : CountAction) (s : State) : State :=
  let d := c + 2 - s.grp.epoch
  if d = 1 ∨ d = 2 then s.modLag fun l => { l with actions := joinActions (c + 2) a l.actions }
  else applyRecord (ActionRec.join { effective := c + 2, freeze := none, clear := false } a) s

/-- The records of one effective epoch are applied and leave the list (R178). -/
def applyDue (e : Epoch) (s : State) : State :=
  let due := s.lag.actions.filter (·.effective == e)
  let left := s.modLag fun l => { l with actions := l.actions.filter (·.effective != e) }
  due.foldl (fun s r => applyRecord r s) left

/-- At an adoption every record is applied, the one of E+1 before the one of E+2, and the list is then empty (R178). -/
def applyAllRecords (s : State) : State :=
  let e := s.grp.epoch
  (applyDue (e + 2) (applyDue (e + 1) s)).modLag fun l => { l with actions := [] }

end Sys2Proof.Machine
end

