-- ==== Sys2Proof/Machine/Group.lean ====
section
/-! DEFINITION. The group controller's parts: group lead and hold (R125), the peer table (R95 to R97), clashes (R99), STATUS and REFUSE queuing (R105, R121), and the moves of the membership state (R93, R94, R110). -/

namespace Sys2Proof.Machine

/-! ### Group lead and group hold (R125, R126) -/

/-- The station counts as SOURCE_LOST (R125). -/
def State.countsLost (s : State) : Bool :=
  match s.grp.ownInUse with
  | some a => a.flags.sourceLost
  | none => s.ownFlags.sourceLost

/-- The station's own lead in use (R125). -/
def State.ownLeadInUse (s : State) : Nat :=
  match s.grp.ownInUse with
  | some a => a.lead.toNat
  | none => s.scan.ownLead

/-- The station's own announced hold (R125). -/
def State.ownAnnouncedHold (s : State) : Nat :=
  match s.grp.ownInUse with
  | some a => a.hold.toNat
  | none => s.ownHold

/-- The in-use announcements of the MEMBER entries (R125). -/
def memberAnns : List (Nat × Peer) → List Ann
  | [] => []
  | (_, p) :: rest =>
    match p.state, p.inUse with
    | .member, some a => a :: memberAnns rest
    | _, _ => memberAnns rest

/-- The leads that count (R125). -/
def State.leadContributions (s : State) : List Nat :=
  ((memberAnns s.grp.peers).filter fun a => !a.flags.sourceLost).map (·.lead.toNat) ++
    (if s.countsLost then [] else [s.ownLeadInUse])

/-- The largest of some leads, or another when there is none. -/
def largestOr (other : Nat) : List Nat → Nat
  | [] => other
  | l :: rest => rest.foldl max l

/-- The group lead (R125). -/
def State.leadOfGroup (s : State) : Nat := min s.cfg.profile.h (largestOr s.scan.ownLead s.leadContributions)

/-- The group hold (R125), in 10 µs units. -/
def State.holdOfGroup (s : State) : Nat :=
  let smallest := ((memberAnns s.grp.peers).map (·.hold.toNat)).foldl min (min s.ownAnnouncedHold s.scan.holdInUse)
  max smallest (s.cfg.profile.minPeriod + 50)

/-- The group values take what R125 gives. -/
def setGroupValues (s : State) : State :=
  s.modGrp fun g => { g with groupLead := s.leadOfGroup, groupHold := s.holdOfGroup }

/-- A recomputation (R126): a changed group lead raises GROUP_LEAD_CHANGES once. -/
def recomputeNow (s : State) : State :=
  whenever (s.grp.groupLead != s.leadOfGroup) (raise .groupLeadChanges) (setGroupValues s)

/-- A recomputation at an event of R126. In STANDBY it waits for the return to RUN, until which R136 keeps both values
(DESIGN CHOICE, log 38); an entry to OUTSIDE or ALONE recomputes there too (R136). -/
def recompute (s : State) : State := whenever (s.ctl.st != .standby) recomputeNow s

/-- The group controller is in use: from the end of BOOT in RUN on (R186, R187). -/
def State.groupInUse (s : State) : Bool :=
  s.ctl.st == .run || s.ctl.st == .standby || s.ctl.st == .sleep || s.ctl.st == .overheat

/-- After a change of the own lead, the own hold or SOURCE_LOST: recomputed while they stand in for the own announcement
(R126). -/
def ownValueChanged (s : State) : State := whenever (s.groupInUse && s.grp.ownInUse.isNone) recompute s

/-! ### STATUS (R120, R121) -/

/-- Queues a STATUS with the values of the moment (R120). -/
def queueStatus (s : State) : State := queueNotice .status (beBytes 4 s.ownAnnouncement.encode.toNat) none s

/-! ### The peer table (R95 to R97) -/

/-- The entry of a station. -/
def State.peer (s : State) (x : Nat) : Option Peer := Sparse.get s.grp.peers x

/-- Changes the table. -/
def modPeers (f : List (Nat × Peer) → List (Nat × Peer)) (s : State) : State :=
  s.modGrp fun g => { g with peers := f g.peers }

/-- Sets an entry. -/
def setPeer (x : Nat) (p : Peer) (s : State) : State := modPeers (Sparse.put x p) s

/-- The highest rank present (R97). -/
def maxOrder : List (Nat × Peer) → Nat
  | [] => 0
  | (_, p) :: rest => max (p.order.getD 0) (maxOrder rest)

/-- The table with every rank above `r` lowered by 1 (R97). -/
def closeRank (r : Nat) (t : List (Nat × Peer)) : List (Nat × Peer) :=
  Sparse.mapVals (fun _ p => { p with order := p.order.map fun o => if r < o then o - 1 else o }) t

/-- The table without the entry of `x`, the ranks closed up (R97). -/
def dropPeer (x : Nat) (t : List (Nat × Peer)) : List (Nat × Peer) :=
  match Sparse.get t x with
  | none => t
  | some p =>
    let left := Sparse.erase x t
    match p.order with
    | some r => closeRank r left
    | none => left

/-- Removes an entry with its window and any refusal due; the group values follow when it was MEMBER (R126). -/
def removePeer (x : Nat) (s : State) : State :=
  match s.peer x with
  | none => s
  | some p => whenever (p.state == .member) recompute (modPeers (dropPeer x) s)

/-- Puts an entry into a list in rising heard order. -/
def insertByOrder (e : Nat × Peer) : List (Nat × Peer) → List (Nat × Peer)
  | [] => [e]
  | f :: rest => if e.2.order.getD 0 ≤ f.2.order.getD 0 then e :: f :: rest else f :: insertByOrder e rest

/-- Entries in heard order (R97). -/
def byOrder : List (Nat × Peer) → List (Nat × Peer)
  | [] => []
  | e :: rest => insertByOrder e (byOrder rest)

/-! ### Clashes (R99) -/

/-- A position clash between two records, with its reason (R99). -/
def positionClash (a b : JoinRec) : Option Reason :=
  if a.col = b.col ∧ a.row = b.row then some .tileTaken
  else if (a.row = b.row ∧ a.top ≠ b.top) ∨ (a.row ≠ b.row ∧ a.top = b.top) then some .band
  else none

/-- A full clash between two records, with its reason (R99). -/
def fullClash (a b : JoinRec) : Option Reason :=
  match positionClash a b with
  | some r => some r
  | none =>
    if a.rows ≠ b.rows ∨ a.period ≠ b.period ∨ a.minPeriod ≠ b.minPeriod then some .geometry else none

/-- The first clash of a record with entries that qualify, in the order given. -/
def firstClash (clash : JoinRec → JoinRec → Option Reason) (j : JoinRec) (ok : Nat → Peer → Bool) :
    List (Nat × Peer) → Option Reason
  | [] => none
  | (n, p) :: rest =>
    match p.join with
    | some k => if ok n p then (clash j k).or (firstClash clash j ok rest) else firstClash clash j ok rest
    | none => firstClash clash j ok rest

/-- The check of a JOIN from `x` (R99): first against the own record, then against the earlier entries. -/
def State.checkJoin (s : State) (x : Nat) (j : JoinRec) : Option Reason :=
  (fullClash j s.ownRecord).or
    (firstClash positionClash j (fun n p => n != x && p.state != .silent && p.due.isNone) (byOrder s.grp.peers))

/-- The check of an entry at its window end or when it is heard again (R103, R112): against every MEMBER entry, and against
the own record while the station is MEMBER. Where several clash, the reason is the first MEMBER entry's in heard order, and
the own record's comes last (DESIGN CHOICE, log 20). -/
def State.checkEntry (s : State) (x : Nat) (j : JoinRec) : Option Reason :=
  (firstClash positionClash j (fun n p => n != x && p.state == .member) (byOrder s.grp.peers)).or
    (if s.grp.membership = .member then fullClash j s.ownRecord else none)

/-- The self-check at the end of the own refusal window (R104). Where several entries clash, the reason is the first one's in
heard order (DESIGN CHOICE, log 20). -/
def State.checkSelf (s : State) : Option Reason :=
  firstClash fullClash s.ownRecord (fun _ p => p.state == .member) (byOrder s.grp.peers)

/-! ### Refusals due (R105) -/

/-- The earliest entry owed a refusal, with the reason (R105). -/
def earliestDue : List (Nat × Peer) → Option (Nat × Reason)
  | [] => none
  | (n, p) :: rest =>
    match p.due with
    | some r => some (n, r)
    | none => earliestDue rest

/-- A REFUSE is on the wire. -/
def State.refuseSending (s : State) : Bool :=
  match s.bus.reg with
  | some r => r.kind == .refuse
  | none => false

/-- Keeps the REFUSE queued that R105 asks for: for the earliest entry due, and none where none is due. While a REFUSE is on
the wire the next waits for its end. -/
def refuseUpkeep (s : State) : State :=
  if !s.grp.membership.active || s.refuseSending then s
  else
    match earliestDue (byOrder s.grp.peers) with
    | some (x, r) =>
      let payload := [refuseByte x r]
      whenever (s.bus.q.refuse.map (·.payload) != some payload) (queueNotice .refuse payload none) s
    | none => whenever s.bus.q.refuse.isSome (withdraw .refuse) s

/-! ### Moves of the membership state (R93, R94, R110) -/

/-- The return state (R94). -/
def State.returnState (s : State) : Membership :=
  if s.grp.dupLatch then .duplicate else if s.bus.mute = .permanent then .listener else .listening

/-- The role notices are withdrawn, the refusals due cleared and the own window cancelled (R110). -/
def withdrawRole (s : State) : State :=
  let quiet := withdraw .refuse (withdraw .standby (withdraw .status (withdraw .join s)))
  quiet.modGrp fun g =>
    { g with ownWindowEnd := none, peers := Sparse.mapVals (fun _ p => { p with due := none }) g.peers }

/-- The listen window starts from its full 64 ms (R98). -/
def startListening (s : State) : State :=
  s.modGrp fun g => { g with listenEnd := some (s.now + 64 * ms), listenAdopted := false }

/-- What leaving the present membership state for `m` does (R110, R60, R175). -/
def leaveMembership (m : Membership) (s : State) : State :=
  let s1 := whenever (s.grp.membership.active && m != .member) withdrawRole s
  whenever (s.grp.membership == .member && m != .member) (fun s => withdraw .count (withdrawUnsent .rep s)) s1

/-- The table and the own announcements are discarded and the windows stopped (R94, R115, R123). -/
def emptyTable (s : State) : State :=
  s.modGrp fun g =>
    { g with peers := [], ownInUse := none, ownPend := none, listenEnd := none, ownWindowEnd := none }

/-- What entering the membership state does beyond the move itself (R85, R94, R98, R107, R115, R136, R178). -/
def enterMembership (m : Membership) (s : State) : State :=
  match m with
  | .outside =>
    let bare := (emptyTable s).modGrp fun g => { g with admMark := none, outOfStep := false, cleanEpochs := 0 }
    recomputeNow (bare.modLag fun l => { l with actions := [] })
  | .alone => recomputeNow (emptyTable s)
  | .listening => startListening s
  | .refused => setFlag .refused (s.modGrp fun g => { g with listenEnd := none })
  | .duplicate | .listener => emptyQueue (s.modGrp fun g => { g with listenEnd := none })
  | .joining | .member => s.modGrp fun g => { g with listenEnd := none }

/-- A move of the membership state. A move to the state already held restarts nothing; callers that restart a listen window
say so. -/
def setMembership (m : Membership) (s : State) : State :=
  if s.grp.membership = m then s
  else
    let left := leaveMembership m s
    enterMembership m (setFlag .membershipChanged (left.modGrp fun g => { g with membership := m }))

/-- A REFUSE binds this station: REFUSED with its record (R106, R107). A station already REFUSED updates its record. -/
def bindRefusal (r : Refusing) (s : State) : State :=
  match s.grp.membership with
  | .listening | .joining | .member | .refused =>
    setMembership .refused (s.modGrp fun g => { g with refusal := some r })
  | _ => s

/-- A REFUSED station tries again (R107). -/
def refusedRetry (s : State) : State := whenever (s.grp.membership == .refused) (setMembership .listening) s

/-- Another station holds this station's number (R113). -/
def duplicateFound (s : State) : State :=
  match s.grp.membership with
  | .duplicate => s
  | .outside => setFlag .duplicate (s.modGrp fun g => { g with dupLatch := true })
  | _ => setMembership .duplicate (setFlag .duplicate (s.modGrp fun g => { g with dupLatch := true }))

end Sys2Proof.Machine
end

