-- ==== Sys2Proof/Machine/EpochCount.lean ====
section
/-! DEFINITION. The epoch: increments (R118, R119), announcements and their effective epochs (R122 to R124), step slips (R132) and adoption (R133 to R135). -/

namespace Sys2Proof.Machine

/-! ### Announcements (R122 to R124) -/

/-- Whether an announcement with effective epoch `eff` is still to come at epoch `now`: one or two increments ahead (R122). -/
def stillAhead (eff now : Epoch) : Bool := eff - now == 1 || eff - now == 2

/-- An entry's pending announcement moves into use at its effective epoch (R124). -/
def Peer.promoteAt (p : Peer) (e : Epoch) : Peer :=
  match p.pend with
  | some a => if a.effective = e then { p with inUse := some a.ann, pend := none } else p
  | none => p

/-- An entry's pending announcement moves into use at once (R135). -/
def Peer.promoteNow (p : Peer) : Peer :=
  match p.pend with
  | some a => { p with inUse := some a.ann, pend := none }
  | none => p

/-- The own pending announcement moves into use at its effective epoch (R123, R124). -/
def Grp.promoteOwnAt (g : Grp) (e : Epoch) : Grp :=
  match g.ownPend with
  | some a => if a.effective = e then { g with ownInUse := some a.ann, ownPend := none } else g
  | none => g

/-- The own pending announcement moves into use at once (R135). -/
def Grp.promoteOwnNow (g : Grp) : Grp :=
  match g.ownPend with
  | some a => { g with ownInUse := some a.ann, ownPend := none }
  | none => g

/-- An entry's announcement, heard with epoch field `c` (R122). -/
def Peer.announce (p : Peer) (a : Ann) (c now : Epoch) : Peer :=
  if stillAhead (c + 2) now then { p with pend := some { ann := a, effective := c + 2 } }
  else { p with inUse := some a, pend := none }

/-- The own announcement, completed with epoch field `c` (R123). -/
def ownAnnounce (a : Ann) (c : Epoch) (s : State) : State :=
  if stillAhead (c + 2) s.grp.epoch then
    s.modGrp fun g => { g with ownPend := some { ann := a, effective := c + 2 } }
  else recompute (s.modGrp fun g => { g with ownInUse := some a, ownPend := none })

/-! ### Increments (R119) -/

/-- An entry at an increment (R111): one epoch more since it was heard, SILENT at 16. -/
def Peer.age (p : Peer) : Peer :=
  { p with
    heard := p.heard + 1
    state := if p.state = .member ∧ 16 ≤ p.heard + 1 then .silent else p.state }

/-- The numbers of the entries not heard for 64 epochs (R111). -/
def expired : List (Nat × Peer) → List Nat
  | [] => []
  | (n, p) :: rest => if 64 ≤ p.heard then n :: expired rest else expired rest

/-- The table at an increment: entries age and those at 64 are removed (R111). -/
def ageTable (t : List (Nat × Peer)) : List (Nat × Peer) :=
  let aged := Sparse.mapVals (fun _ p => p.age) t
  (expired aged).foldl (fun t n => dropPeer n t) aged

/-- The clean-epoch count at an increment (R119, step 4). -/
def Grp.cleanStep (g : Grp) : Grp :=
  if g.outOfStep then
    if 16 ≤ g.cleanEpochs + 1 then { g with outOfStep := false, cleanEpochs := 0 }
    else { g with cleanEpochs := g.cleanEpochs + 1 }
  else g

/-- A waiting REPEAT is queued again with the new epoch (R60). -/
def requeueRepeat (s : State) : State :=
  whenever s.bus.q.rep.isSome (queueNotice .rep [] (some s.grp.epoch)) s

/-- The mute history at an increment (R89). -/
def ageMutes (s : State) : State :=
  s.modBus fun b => { b with muteAges := (b.muteAges.map (· + 1)).filter (· < 256) }

/-- An increment of the epoch (R118, R119), with the admission mark it leaves. The counter actions due apply before anything
the increment leads to (R178). -/
def increment (mark : Option Serial) (s : State) : State :=
  let e := s.grp.epoch + 1
  let moved := s.modGrp fun g => { g with epoch := e, admMark := mark }
  let counted := applyDue e moved
  let aged := counted.modGrp fun g =>
    ((g.promoteOwnAt e).cleanStep |> fun g =>
      { g with peers := ageTable (Sparse.mapVals (fun _ p => p.promoteAt e) g.peers) })
  let valued := recompute aged
  let due := valued.grp.membership == .member && valued.ctl.station.toNat % 4 == e.toNat % 4
  let cleared := valued.modLq fun q => { q with overrun := false }
  whenever due queueStatus (requeueRepeat (ageMutes cleared))

/-! ### Step slips and adoption (R132 to R135) -/

/-- A step slip (R132). A change of OUT_OF_STEP queues a STATUS in JOINING and MEMBER (R121), also where the increment of the
same command has just cleared it. -/
def stepSlip (s : State) : State :=
  let slipped := (raise .stepSlips s).modGrp fun g => { g with outOfStep := true, cleanEpochs := 0 }
  whenever (s.grp.membership.active && !s.grp.outOfStep) queueStatus slipped

/-- An adoption to epoch `e` (R135). -/
def adopt (e : Epoch) (s : State) : State :=
  let counted := applyAllRecords s
  let moved := counted.modGrp fun g =>
    { g.promoteOwnNow with
      epoch := e
      admMark := none
      peers := Sparse.mapVals (fun _ p => p.promoteNow) g.peers }
  requeueRepeat (recompute moved)

/-- The entry of `x` is MEMBER. -/
def State.peerIsMember (s : State) (x : Nat) : Bool :=
  match s.peer x with
  | some p => p.state == .member
  | none => false

/-- Whether a sender qualifies for the adoption test, and whether a slip is counted (R133). -/
def State.adoptionFrom (s : State) (x : Nat) : Option Bool :=
  if s.ctl.st ≠ .run then none
  else match s.grp.membership with
    | .listening => if s.peerIsMember x && !s.grp.listenAdopted then some false else none
    | .joining => if x < s.own then some true else none
    | .member => if decide (x < s.own) && s.peerIsMember x then some true else none
    | .listener => if s.peerIsMember x then some true else none
    | _ => none

/-- The first member notice of a listen window has come (R98, R133). -/
def markListened (s : State) : State :=
  whenever (s.grp.membership == .listening) (fun s => s.modGrp fun g => { g with listenAdopted := true }) s

/-- The adoption test (R134): `p` is the sender's epoch after the notice, `slipped` says that the notice has already counted a
slip (R132), and the start epoch S is the one that the bus interface took at the notice's start bit. -/
def adoptionTest (x : Nat) (p : Epoch) (slipped : Bool) (s : State) : State :=
  match s.adoptionFrom x with
  | none => s
  | some counts =>
    let start := s.bus.startEpoch
    let adopted := whenever (p != start)
      (fun s => whenever (counts && !slipped) stepSlip (adopt (p + (s.grp.epoch - start)) s)) s
    markListened adopted

end Sys2Proof.Machine
end

