-- ==== Sys2Proof/Config.lean ====
section
/-! DEFINITION. What the spec leaves open as a value: the free values. They have no body, so no proof can see what they are. -/

namespace Sys2Proof

/-- FREE VALUE. Pixel of row `row` and column `col` of tile memory while its content is undefined (R38, R41, R147): after
reset and after entry to SLEEP or OVERHEAT, until a line is committed to the row. The first argument is the moment of the
read, so that nothing ties two reads together. See log 7. -/
opaque Config.undefinedPixel : Nat → Nat → Nat → Pixel

/-- FREE VALUE. Whether the cell position (column, row) of glyph `index` is lit. R159 gives the table's 20 characters and
says only that they are "the ordinary upright forms"; the border it does give is applied where the glyph is drawn. See
log 8. -/
opaque Config.glyphLit : Nat → Nat → Nat → Bool

end Sys2Proof
end

