-- ==== Sys2Proof/Machine/Overlay.lean ====
section
/-! DEFINITION. The overlay unit: the pair (R159), the box drawn over a row (R160, R161), the latch (R162) and identify mode (R163). -/

namespace Sys2Proof.Machine

/-- The letter for the station's standing (R159); none where no panel is lit. -/
def letterOf (st : StationState) (m : Membership) : Option Letter :=
  if st = .halted then some .c
  else match m with
    | .member => some .m
    | .listener => some .l
    | .joining | .listening => some .j
    | .alone => some .a
    | .refused => some .r
    | .duplicate => some .d
    | .outside => none

/-- A letter's glyph (R159): A to F are 10 to 15, then J, L, M, R. -/
def Letter.glyph : Letter → Nat
  | .a => 10 | .c => 12 | .d => 13 | .j => 16 | .l => 17 | .m => 18 | .r => 19

/-- A cell position of a glyph is lit: within the inner 10 × 14 positions, as the glyph's shape gives (R159, log 8). -/
def cellLit (glyph col row : Nat) : Bool :=
  decide (1 ≤ col) && decide (col ≤ 10) && decide (1 ≤ row) && decide (row ≤ 14) && Config.glyphLit glyph col row

/-- A glyph's block at 8 times scale, `x` and `y` counted from its corner (R160). -/
def blockLit (glyph x y : Nat) : Bool := cellLit glyph (x / 8) (y / 8)

/-- The box's pixel at `x`, `y` counted from the box's corner (R160). -/
def boxPixel (digit letter x y : Nat) : Pixel :=
  if decide (16 ≤ y) && decide (y < 144) then
    if decide (16 ≤ x) && decide (x < 112) && blockLit digit (x - 16) (y - 16) then Pixel.white
    else if decide (128 ≤ x) && decide (x < 224) && blockLit letter (x - 128) (y - 16) then Pixel.white
    else Pixel.black
  else Pixel.black

/-- The box's left column or top row (R160): rounded down, and maybe below 0. -/
def boxOrigin (size box : Nat) : Int := ((size : Int) - (box : Int)) / 2

/-- The pixel at a column of a row under the overlay (R160, R161). -/
def overlaidPixel (w h digit letter row col : Nat) (p : Pixel) : Pixel :=
  let x := (col : Int) - boxOrigin w 240
  let y := (row : Int) - boxOrigin h 160
  if 0 ≤ x ∧ x < 240 ∧ 0 ≤ y ∧ y < 160 then boxPixel digit letter x.toNat y.toNat else p

/-- Pixels with their columns, from column `k` on. -/
def mapCols (f : Nat → Pixel → Pixel) (k : Nat) : List Pixel → List Pixel
  | [] => []
  | p :: rest => f k p :: mapCols f (k + 1) rest

/-- A row as it leaves for the panel port (R161). -/
def overlayRow (o : Ovl) (w h row : Nat) (pixels : List Pixel) : List Pixel :=
  match o.drawn, o.latched with
  | true, some (digit, letter) => mapCols (overlaidPixel w h digit.toNat letter.glyph row) 0 pixels
  | _, _ => pixels

/-- Whether the overlay is to be drawn, decided at a latch (R162). -/
def State.overlayWanted (s : State) : Bool :=
  s.ctl.st == .halted ||
    (s.ctl.st == .run &&
      (s.grp.membership == .refused || s.grp.membership == .duplicate || decide (s.now < s.ovl.identifyUntil)))

/-- The latch at each scan start and idle-pass start (R162). -/
def latchOverlay (s : State) : State :=
  s.modOvl fun o =>
    { o with
      latched := (letterOf s.ctl.st s.grp.membership).map fun x => (s.ctl.station, x)
      drawn := s.overlayWanted }

/-- A start of identify mode for `n` seconds (R163); 0 ends it (R165). -/
def startIdentify (n : Nat) (s : State) : State :=
  s.modOvl fun o => { o with identifyUntil := if n = 0 then 0 else s.now + n * 1000 * ms }

/-- The identify timer in ms (R163, R167). -/
def State.identifyTimer (s : State) : Nat := (s.ovl.identifyUntil - s.now + (ms - 1)) / ms

/-- A row of the idle pass as the panel gets it (R44): black, with the overlay. -/
def State.idlePassRow (s : State) (row : Nat) : List Pixel :=
  overlayRow s.ovl s.cfg.profile.w s.cfg.profile.h row (List.replicate s.cfg.profile.w Pixel.black)

end Sys2Proof.Machine
end

