-- ==== Sys2Proof/Machine/Tile.lean ====
section
/-! DEFINITION. The line queue (R23 to R31), the tile writer and its guard (R32 to R36), tile memory and the row map (R38 to R41). -/

namespace Sys2Proof.Machine

/-! ### The ring (R23, R24) -/

/-- The occupancy count: the non-FREE slots (R23). -/
def Lq.occupancy (q : Lq) : Nat := q.ring.length

/-- The in-pointer (R23). -/
def Lq.inPtr (q : Lq) : Nat := (q.outPtr + q.occupancy) % 48

/-- The newest non-FREE slot changed by `f`; the FILLING slot is always the newest (R24). -/
def mapNewest (f : Slot → Slot) : List Slot → List Slot
  | [] => []
  | [a] => [f a]
  | a :: b :: rest => a :: mapNewest f (b :: rest)

/-- The head slot changed by `f`. -/
def mapHead (f : Slot → Slot) : List Slot → List Slot
  | [] => []
  | a :: rest => f a :: rest

/-- The ring with a slot taken at the in-pointer (R24). -/
def takeSlot (a : Slot) (s : State) : State := s.modLq fun q => { q with ring := q.ring ++ [a] }

/-- The newest slot is FILLING. -/
def Lq.fillingNewest (q : Lq) : Bool :=
  match q.ring.getLast? with
  | some a => a.phase == .filling
  | none => false

/-- Frees the FILLING slot, if there is one; the in-pointer moves back to it (R25, R28). -/
def freeFilling (s : State) : State :=
  s.modLq fun q => if q.fillingNewest then { q with ring := q.ring.dropLast } else q

/-! ### The writer guard (R33, R34) -/

/-- The guard for a line of frame `y` and tile row `r` (R33). -/
def State.guardAllows (s : State) (y : Serial) (r : Nat) : Bool :=
  match s.scan.prog with
  | none => true
  | some p => y == p.serial || decide (r < p.q)

/-- What the writer waits for where the guard refuses the head (R32, R33, R35): HELD with a WAITING head, STAGED with a copied
one. -/
def Lq.refusedWriter (q : Lq) (a : Slot) : Writer :=
  if a.phase = .waiting ∧ (q.writer = .idle ∨ q.writer = .held) then .held
  else if a.phase = .writing ∧ q.staging.isSome then .staged
  else q.writer

/-- A decision of the guard for the head (R34): where it refuses, the writer is HELD or STAGED. Where it allows, the take or
the commit is the writer's next step, and the writer state stays until then (DESIGN CHOICE, log 26). -/
def decideHead (s : State) : State :=
  match s.lq.ring with
  | a :: _ =>
    if s.guardAllows a.serial a.row then s else s.modLq fun q => { q with writer := q.refusedWriter a }
  | [] => s

/-- The head can be taken (R33). -/
def State.canTake (s : State) : Bool :=
  match s.lq.ring with
  | a :: _ =>
    a.phase == .waiting && (s.lq.writer == .idle || s.lq.writer == .held) && s.guardAllows a.serial a.row
  | [] => false

/-- The staged row can be committed (R35). -/
def State.canCommit (s : State) : Bool :=
  match s.lq.ring with
  | a :: _ => a.phase == .writing && s.lq.staging.isSome && s.guardAllows a.serial a.row
  | [] => false

/-! ### Tile memory and the row map (R38, R39) -/

/-- A row's entry: NONE with its mark clear unless listed. -/
def Mem.entry (m : Mem) (r : Nat) : RowEntry :=
  match Sparse.get m.map r with
  | some e => e
  | none => { serial := none, stale := false }

/-- The row map with a row's entry set; an entry that reads as an unlisted one is not listed. -/
def Mem.setEntry (m : Mem) (r : Nat) (e : RowEntry) : Mem :=
  if e = { serial := none, stale := false } then { m with map := Sparse.erase r m.map }
  else { m with map := Sparse.put r e m.map }

/-- The undefined content of a row of `w` pixels at a moment (R38, log 7). -/
def undefinedRow (now row : Nat) : Nat → List Pixel
  | 0 => []
  | w + 1 => undefinedRow now row w ++ [Config.undefinedPixel now row w]

/-- A row's content as a read at `now` returns it: black while its entry is NONE (R38, R46). -/
def State.rowContent (s : State) (r : Nat) : List Pixel :=
  if (s.mem.entry r).serial.isNone then List.replicate s.cfg.profile.w Pixel.black
  else match Sparse.get s.mem.tile r with
    | some px => px
    | none => undefinedRow s.now r s.cfg.profile.w

/-- The entries whose STALE mark is set (R40). -/
def Mem.staleCount (m : Mem) : Nat := (m.map.filter fun e => e.2.stale).length

/-- The row map cleared and tile memory undefined (R41). -/
def clearRows (s : State) : State := s.modMem fun _ => Mem.reset

/-! ### Fill lines (R21, R30) -/

/-- A fill line's slot (R21, R30). -/
def fillSlot (w : Nat) (f : Fill) : Slot :=
  { phase := .waiting, serial := f.serial, row := f.row, pixels := List.replicate w Pixel.black, passed := true }

/-- The fill after one line is issued: the next row, or none after row H − 1 (R21). -/
def Fill.advance (f : Fill) (h : Nat) : Option Fill :=
  if f.row + 1 < h then some { f with row := f.row + 1, held := false } else none

/-- Issues the next fill line, or holds it while no slot is FREE (R21, R30). -/
def issueFill (s : State) : State :=
  match s.src.fill with
  | none => s
  | some f =>
    if s.lq.occupancy < 48 then
      decideHead ((takeSlot (fillSlot s.cfg.profile.w f) s).modSrc fun r =>
        { r with fill := f.advance s.cfg.profile.h })
    else s.modSrc fun r => { r with fill := some { f with held := true } }

/-! ### Commit and emptying (R29, R35, R36) -/

/-- A commit (R35): the staging row becomes the row's content, its entry takes the serial with the mark clear, the head slot
becomes FREE. A held fill line takes the freed slot (R30). Where the guard allows the new head, the writer is IDLE until it
takes it (DESIGN CHOICE, log 26). -/
def commit (s : State) : State :=
  match s.lq.ring, s.lq.staging with
  | a :: rest, some px =>
    let written := s.modMem fun m =>
      ({ m with tile := Sparse.put a.row px m.tile }).setEntry a.row { serial := some a.serial, stale := false }
    let freed := written.modLq fun q =>
      { q with ring := rest, outPtr := (q.outPtr + 1) % 48, writer := .idle, staging := none }
    let filled := whenever (match s.src.fill with | some f => f.held | none => false) issueFill freed
    decideHead filled
  | _, _ => s

/-- The queue is emptied, a write in progress abandoned and the OVERRUN mark cleared (R29, R36). -/
def emptyLines (s : State) : State := s.modLq fun _ => Lq.reset

end Sys2Proof.Machine
end

