-- ==== Sys2Proof/Machine/Panel.lean ====
section
/-! DEFINITION. The scan engine's operations: own lead and margin (R55 to R57), start conditions (R50 to R53), scan starts (R46, R64), ends and cuts (R47, R48), repeat deadlines (R59 to R62) and repeat orders (R63). -/

namespace Sys2Proof.Machine

/-! ### Own lead and adaptive margin (R55 to R57) -/

/-- The raw lead (R55): rows the source has not delivered when a scan of `h` rows at `p` ns ends, for a meter count `c`. -/
def rawLead (h p c : Nat) : Nat :=
  if p * c < 1024000 then (h * (1024000 - p * c) + 1023999) / 1024000 else 0

/-- The own lead (R55). -/
def ownLeadOf (h p margin : Nat) : Option Nat → Nat
  | none => h
  | some c => min h (rawLead h p c + margin)

/-- The own lead is computed and handed to the group controller (R55, R126). -/
def computeOwnLead (s : State) : State :=
  let l := ownLeadOf s.cfg.profile.h s.scan.active.period s.scan.margin s.src.inUse
  whenever (l != s.scan.ownLead) ownValueChanged (s.modScan fun c => { c with ownLead := l })

/-- The overtake mark applied to the margin at the end of a new-frame scan or at its cut (R56). -/
def marginRise (c : Scan) : Scan := { c with margin := min 32 (c.margin + 2), cleanRun := 0 }

/-- A new-frame scan ended without an overtake (R57). -/
def cleanScan (base : Nat) (c : Scan) : Scan :=
  if 240 ≤ c.cleanRun + 1 then { c with cleanRun := 0, margin := if base < c.margin then c.margin - 1 else c.margin }
  else { c with cleanRun := c.cleanRun + 1 }

/-! ### Scan starts (R46, R53, R64, R65, R66) -/

/-- The strobe pulse that a start schedules (R66). -/
def pulseFrom (start : Nat) (t : Timing) : Strobe :=
  if t.strobe = 0 then .off else .scheduled (start + t.delay * us)

/-- The copy of the shadow set and the strobe, at each scan start and idle-pass start (R65, R66). -/
def startTiming (now : Nat) (c : Scan) : Scan :=
  { c with active := c.shadow, strobe := pulseFrom now c.shadow }

/-- What every scan start does (R46), for scan serial `x` and the scan state `st`. The own hold is latched, and the group
values follow when that changes it (R126), before FRAMES_SHOWN or REPEATS is raised (DESIGN CHOICE, log 41). A REPEAT is
withdrawn if its start bit has not been sent (R60). -/
def beginScan (x : Serial) (st : ScanState) (s : State) : State :=
  let started := s.modScan fun c =>
    { startTiming s.now c with
      st := st
      idlePass := none
      lastStart := some s.now
      holdInUse := s.ownHold
      prog := some { serial := x, q := 0 }
      overtake := false
      repeatMark := false
      owed := false }
  let noted := started.modJudged fun j => { j with period := true }
  let held := whenever (s.scan.holdInUse != s.ownHold) recompute noted
  decideHead (latchOverlay (withdrawUnsent .rep held))

/-- The lag of a frame admitted at `since` and shown at `now`, in 0.1 µs, the fraction dropped (R67). -/
def lagUnits (since now : Nat) : Nat := min 16777215 ((now - since) / 100)

/-- A new-frame scan start (R53). -/
def startNewFrame (s : State) : State :=
  match s.scan.waiting with
  | none => s
  | some w =>
    let lag := lagUnits w.admittedAt s.now
    let begun := beginScan w.serial .scan s
    raise (.framesShown lag) (begun.modScan fun c =>
      { c with shown := some w.serial, waiting := none, lastLag := BitVec.ofNat 24 lag })

/-- A repeat scan start (R64): the serial is the shown one. -/
def startRepeat (s : State) : State :=
  match s.scan.shown with
  | none => s
  | some x => raise .repeats (beginScan x .rescan s)

/-! ### Start conditions (R50 to R52) -/

/-- No scan starts after the decision of a SUPPLY departure (R141), nor outside RUN. -/
def State.scansAllowed (s : State) : Bool :=
  s.ctl.st == .run && (match s.ctl.departure with | some d => !d.decided | none => true)

/-- The source line whose arrival lets the scan start (R50). -/
def State.startLine (s : State) : Nat := s.cfg.top + min s.leadInUse s.cfg.profile.h

/-- The raster position is at or beyond line t = top + min(L, H) − 1, or the waiting frame has ended (R50). A raster position
of NONE lies below every line. -/
def State.rasterMet (s : State) (w : Waiting) : Bool :=
  w.ended ||
    (match s.src.raster with
     | none => false
     | some i => decide (s.startLine ≤ i + 1))

/-- A new-frame scan can start but for the minimum frame period (R50). While a repeat is owed, the frame waits behind it
(R63). -/
def State.newFrameReady (s : State) : Bool :=
  s.scansAllowed && s.scan.st == .wait && !s.scan.owed &&
    (match s.scan.waiting with | some w => s.rasterMet w | none => false)

/-- All conditions of R50 hold. -/
def State.newFrameDue (s : State) : Bool := s.newFrameReady && s.periodPassed

/-- The repeat deadlines are kept (R59): HOLD, or WAIT after a scan, in RUN. -/
def State.keepsDeadlines (s : State) : Bool :=
  s.ctl.st == .run && s.scan.lastStart.isSome && (s.scan.st == .hold || s.scan.st == .wait)

/-- The state in which a repeat scan can start (R59, R63, R141). -/
def State.betweenScans (s : State) : Bool := s.scansAllowed && s.keepsDeadlines

/-- A start waits for nothing but the minimum frame period (R52): an owed repeat (R63) or a new frame's. -/
def State.startWaits (s : State) : Bool := (s.scan.owed && s.betweenScans) || s.newFrameReady

/-- An owed repeat can start (R63). -/
def State.owedDue (s : State) : Bool := s.scan.owed && s.betweenScans && s.periodPassed

/-- A new-frame scan starts at its conditions. MIN_PERIOD_WAITS is raised if the start was deferred by the minimum frame
period (R52): the period is still to be judged (log 12), and `ready` says that the other conditions held before. It is raised
before the start's other events (DESIGN CHOICE, log 41). -/
def newFrameIfDue (ready : Bool) (s : State) : State :=
  whenever s.newFrameDue
    (fun s => startNewFrame (whenever (s.judged.period && ready) (raise .minPeriodWaits) s)) s

/-- An owed repeat starts when the minimum frame period has passed (R52, R63); MIN_PERIOD_WAITS is raised first (DESIGN CHOICE,
log 41). -/
def owedIfDue (s : State) : State :=
  whenever s.owedDue (fun s => startRepeat (raise .minPeriodWaits s)) s

/-- The start that a frame's end brings (R50): an owed repeat goes first (R63). `ready` says that the conditions of a new
frame's start, the period aside, held before that end. -/
def startAtEnd (ready : Bool) (s : State) : State := if s.owedDue then owedIfDue s else newFrameIfDue ready s

/-- The minimum frame period passes (R52): an owed repeat goes first, and a frame whose conditions meet waits behind it
(R63). -/
def periodPasses (s : State) : State :=
  if s.owedDue then owedIfDue s
  else (newFrameIfDue true s).modJudged fun j => { j with period := s.newFrameDue }

/-- A repeat order (R63). -/
def repeatOrder (s : State) : State :=
  if !s.betweenScans then s
  else if s.periodPassed then startRepeat s
  else s.modScan fun c => { c with owed := true }

/-! ### Admission and frame end at the scan engine (R49) -/

/-- A frame's admission (R49). -/
def admitToScan (x : Serial) (s : State) : State :=
  let put := fun s : State => s.modScan fun c =>
    { c with waiting := some { serial := x, admittedAt := s.now, ended := false } }
  match s.scan.st with
  | .dark | .hold => (put s).modScan fun c => { c with st := .wait }
  | .wait | .scan | .rescan => put (whenever s.scan.waiting.isSome (raise .framesSkipped) s)

/-- A frame's end sets the ended mark of the waiting frame of that serial (R49). -/
def endAtScan (x : Serial) (s : State) : State :=
  s.modScan fun c =>
    { c with waiting := c.waiting.map fun w => if w.serial = x then { w with ended := true } else w }

/-! ### Reads (R39, R46, R54) -/

/-- The read of row q (R46): an overtake is judged in a new-frame scan (R54), the position advances, the row leaves through
the overlay (R161), and the writer guard is decided again (R34). -/
def readRow (s : State) : State :=
  match s.scan.prog with
  | none => s
  | some p =>
    let entry := s.mem.entry p.q
    let row := overlayRow s.ovl s.cfg.profile.w s.cfg.profile.h p.q (s.rowContent p.q)
    let overtaken := s.scan.st == .scan && entry.serial != some p.serial
    let marked := whenever overtaken
      (fun s => raise .rowsStale
        ((s.modMem fun m => m.setEntry p.q { entry with stale := true }).modScan fun c => { c with overtake := true })) s
    decideHead (marked.modScan fun c =>
      { c with prog := some { p with q := p.q + 1 }, lastRow := some (p.q, row) })

/-- Row q is due to be read (R46). -/
def State.rowDue (s : State) : Bool :=
  match s.scan.prog with
  | none => false
  | some p => decide (p.q < s.cfg.profile.h) && passed s.scan.lastStart (p.q * s.scan.active.period) s.now

/-- D has passed since the scan's start (R46). -/
def State.scanOver (s : State) : Bool :=
  s.scanning && passed s.scan.lastStart (s.cfg.profile.h * s.scan.active.period) s.now

/-! ### Ends and cuts (R47, R48) -/

/-- The scan state once no scan is in progress: WAIT with a waiting frame, else HOLD (R47). -/
def afterScan (c : Scan) : ScanState := if c.waiting.isSome then .wait else .hold

/-- The end of a scan (R47): margin and own lead for a new-frame scan, then WAIT or HOLD. -/
def endScan (s : State) : State :=
  let judged := s.modScan fun c =>
    if c.st = .scan then (if c.overtake then marginRise c else cleanScan s.cfg.marginBase c) else c
  let ended := judged.modScan fun c => { c with prog := none, st := afterScan c }
  decideHead (whenever (s.scan.st == .scan) computeOwnLead ended)

/-- A scan is cut (R48): the pulse ends, and the overtake mark of a new-frame scan is applied. A pulse that was scheduled and
has not begun is cancelled too, and the scan state until the entry is WAIT or HOLD as after any scan (DESIGN CHOICE,
log 35). -/
def cutScan (s : State) : State :=
  if !s.scanning then s
  else
    let rises := s.scan.st == .scan && s.scan.overtake
    let judged := s.modScan fun c => if rises then marginRise c else c
    let ended := judged.modScan fun c => { c with prog := none, st := afterScan c, strobe := .off }
    decideHead (whenever rises computeOwnLead ended)

/-- The values at entry to STANDBY, SLEEP or OVERHEAT (R45), a queued REPEAT being withdrawn. -/
def quietScan (s : State) : State :=
  withdrawUnsent .rep ((s.modJudged fun j => { j with period := false }).modScan fun c =>
    { c with
      st := .dark, lastStart := none, prog := none, waiting := none, overtake := false, repeatMark := false,
      owed := false, idlePass := none, strobe := .off })

/-! ### Repeat deadlines (R59 to R62) -/

/-- A deadline `hold` (10 µs units) less `before` (µs) after the last scan start is reached between scans (R59). -/
def State.deadline (s : State) (hold before : Nat) : Bool :=
  s.keepsDeadlines && passed s.scan.lastStart (hold * 10 * us - before * us) s.now

/-- The states that repeat as a group of one (R59). -/
def Membership.groupOfOne : Membership → Bool
  | .listening | .joining | .alone | .refused | .duplicate => true
  | _ => false

/-- The REPEAT deadline of a MEMBER (R60). A decided SUPPLY departure bars scan starts alone (R141). -/
def State.repeatDue (s : State) : Bool :=
  s.grp.membership == .member && !s.scan.repeatMark && s.deadline s.grp.groupHold 300

/-- The group-of-one deadline (R61). Its action is a scan start: none is taken while a decided SUPPLY departure bars scans
(R141; DESIGN CHOICE, log 35). -/
def State.groupOfOneDue (s : State) : Bool :=
  s.scansAllowed && s.grp.membership.groupOfOne && s.deadline s.scan.holdInUse 300

/-- The private-repeat deadline (R62), barred in the same way (log 35). -/
def State.privateDue (s : State) : Bool := s.scansAllowed && s.deadline s.scan.holdInUse 20

/-- A MEMBER queues its REPEAT (R60). -/
def queueRepeat (s : State) : State :=
  queueNotice .rep [] (some s.grp.epoch) (s.modScan fun c => { c with repeatMark := true })

/-- A repeat as a group of one (R61): the epoch moves on, then the repeat starts. -/
def repeatAlone (s : State) : State := startRepeat (increment none s)

/-- The private repeat (R62). STEP_SLIPS is raised before the scan's REPEATS (DESIGN CHOICE, log 41). -/
def repeatPrivately (s : State) : State :=
  match s.grp.membership with
  | .listener => startRepeat s
  | .member => startRepeat (stepSlip (increment none (withdrawUnsent .rep s)))
  | _ => repeatAlone s

end Sys2Proof.Machine
end

