-- ==== Sys2Proof/Machine/Intake.lean ====
section
/-! DEFINITION. The source receiver's operations: lock and lock loss (R4 to R9), frames (R10 to R12), lines (R13 to R15), the line-rate meter (R16 to R18), and the tile window filter (R19 to R21). -/

namespace Sys2Proof.Machine

/-! ### Line-rate meter (R16 to R18) -/

/-- The gate is open. -/
def Src.gateOpen (r : Src) : Bool := r.gateFrom.isSome

/-- A discard, if the gate is open (R17). -/
def Src.discardGate (r : Src) : Src := if r.gateOpen then { r with gateFrom := none, result := .discarded } else r

/-- The gate opens at the accepted LS of line 0 (R16). -/
def Src.openGate (r : Src) (now : Nat) : Src := { r with gateFrom := some now, running := 0, wrapped := false }

/-- A further LS mark starts while the gate is open (R16). -/
def Src.countMark (r : Src) (now : Nat) : Src :=
  match r.gateFrom with
  | none => r
  | some t =>
    if t + 1024 * us ≤ now then r
    else if r.running = 2047 then { r with running := 0, wrapped := true }
    else { r with running := r.running + 1 }

/-- Whether a count replaces the count in use (R18). -/
def countChanges (inUse : Option Nat) (c : Nat) : Bool :=
  match inUse with
  | none => true
  | some u => decide (u + 1 < c) || decide (c + 1 < u)

/-- The gate closes and the count is judged (R18). -/
def Src.closeGate (r : Src) : Src :=
  let closed := { r with gateFrom := none }
  if r.wrapped then { closed with result := .wrapped }
  else if r.running < 16 then { closed with result := .low }
  else if countChanges r.inUse r.running then { closed with result := .changed, inUse := some r.running }
  else { closed with result := .kept }

/-! ### Lock (R4 to R9) -/

/-- The SILENT run time when the lock state moves to `l` (R142): it starts with SILENT and returns to 0 with its end. -/
def silentRun (l : Lock) (s : State) : Option Nat :=
  if l = .silent then (if s.src.lock = .silent then s.ctl.silentFrom else some s.now) else none

/-- The lock state moves; SOURCE_LOST reaches the group controller when it changes (R9, R126). -/
def setLock (l : Lock) (s : State) : State :=
  let moved := (s.modSrc fun r => { r with lock := l }).modCtl fun c => { c with silentFrom := silentRun l s }
  whenever ((s.src.lock != .locked) != (l != .locked)) ownValueChanged moved

/-- The open frame, if there is one, ends (R12). -/
def endFrame (s : State) : State :=
  if s.src.frameOpen then
    endAtScan s.src.serial (s.modSrc fun r => { r with frameOpen := false })
  else s

/-- A lock loss, to the lock state `l` (R9, R28). -/
def lockLoss (l : Lock) (s : State) : State :=
  let stopped := (endFrame s).modSrc fun r => { r.discardGate with fill := none, line := none }
  setLock l (setFlag .sourceLost (freeFilling stopped))

/-- The lock state leaves for `l`, by a lock loss when it was LOCKED; otherwise the gate and the fill end if they are active
(R9, R22). -/
def leaveLock (l : Lock) (s : State) : State :=
  if s.src.lock = .locked then lockLoss l s
  else setLock l (s.modSrc fun r => { r.discardGate with fill := none, line := none })

/-! ### Frames (R10, R11) -/

/-- The skip test of R11. -/
def Src.skipTest (r : Src) (tag : Byte) : Src :=
  if r.tagKnown && decide (2 ≤ (tag - r.lastTag).toNat) then { r with skips := satInc r.skips } else r

/-- An admission (R10): the receiver's part, then the epoch (R118), then the scan engine (R49). -/
def admitFrame (m : FsMark) (s : State) : State :=
  let opened := s.modSrc fun r =>
    { r.skipTest m.tag with
      serial := r.serial + 1, frameOpen := true, raster := none, lastTag := m.tag, tagKnown := true,
      variableCadence := m.variableCadence }
  admitToScan (s.src.serial + 1) (increment (some (s.src.serial + 1)) opened)

/-- LOCKING becomes LOCKED (R5). -/
def acquireLock (s : State) : State :=
  setLock .locked (s.modSrc fun r => { r with fails := 0, tagKnown := false })

/-- The geometry of an FS is remembered (R4, R5). -/
def rememberGeometry (m : FsMark) (s : State) : State :=
  s.modSrc fun r => { r with width := m.width, height := m.height }

/-- The geometry of an FS is the current one (R1). -/
def Src.sameGeometry (r : Src) (m : FsMark) : Bool := m.width == r.width && m.height == r.height

/-! ### Lines (R13 to R15, R24 to R26) -/

/-- The source line `i` lies in the tile window (R19). -/
def State.inWindow (s : State) (i : Nat) : Bool := decide (s.cfg.top ≤ i) && decide (i < s.cfg.top + s.cfg.profile.h)

/-- The FILLING slot leaves FILLING on a pass (R25), its pixels beyond the active width black (R20). -/
def passSlot (w : Nat) (a : Slot) : Slot :=
  { a with
    phase := .waiting, passed := true
    pixels := a.pixels ++ List.replicate (w - a.pixels.length) Pixel.black }

/-- The fill that a COMPLETE end starts, if the window reaches beyond the picture (R21). -/
def State.fillNeeded (s : State) : Option Fill :=
  if s.src.height < s.cfg.top + s.cfg.profile.h then
    some { row := s.src.height - s.cfg.top, serial := s.src.serial, held := false }
  else none

/-- A line's check has been evaluated (R7, R15, R25): `pass` is its result. The line at index height − 1 ends the frame
COMPLETE (R12), and an eighth failure loses the lock (R7). -/
def judgeLine (l : LineIn) (pass : Bool) (s : State) : State :=
  let taken := s.modSrc fun r => { r with line := none }
  let judged :=
    if pass then
      let cleared := taken.modSrc fun r => { r with fails := 0 }
      if l.claimed then
        decideHead (cleared.modLq fun q => { q with ring := mapNewest (passSlot s.cfg.profile.w) q.ring })
      else cleared
    else
      let failed := (raise .linesBad taken).modSrc fun r => { r with fails := r.fails + 1 }
      if l.claimed then freeFilling failed else failed
  let ended :=
    if l.index + 1 = s.src.height ∧ s.src.frameOpen then
      (endFrame judged).modSrc fun r => { r with fill := s.fillNeeded }
    else judged
  if ¬ pass ∧ 8 ≤ s.src.fails + 1 then lockLoss .search ended else ended

/-- A mark arrives while a line's check is still to come: that line fails (log 13). Not at a lock loss (R28). -/
def failUnfinished (s : State) : State :=
  match s.src.line with
  | none => s
  | some l => judgeLine l false s

/-- The line's slot (R24), or the drop at a full queue (R26): LINES_DROPPED is raised after the three events of the LS (DESIGN
CHOICE, log 34). -/
def claimSlot (i : Nat) (s : State) : State :=
  if s.lq.occupancy < 48 then
    takeSlot { phase := .filling, serial := s.src.serial, row := i - s.cfg.top, pixels := [], passed := false } s
  else raise .linesDropped (s.modLq fun q => { q with overrun := true })

/-- A line accepted in sequence (R13, R15, R16, R17, R19). Its three events reach the lag meter in the order LINES_IN,
QUEUE_OCCUPANCY, QUEUE_FULL: a DESIGN CHOICE (log 34). -/
def acceptLine (i : Nat) (s : State) : State :=
  let v := s.lq.occupancy
  let counted := raise (.queueFull v) (raise (.queueOccupancy v) (raise .linesIn s))
  let claimed := s.inWindow i && decide (v < 48)
  let placed := counted.modSrc fun r =>
    let r := { r with raster := some i, line := some { index := i, claimed := claimed, crc := lineCrcStart i, count := 0, part := [] } }
    let r := if i = 0 then r.openGate s.now else r
    if i + 1 = r.height then r.discardGate else r
  whenever (s.inWindow i) (claimSlot i) placed

/-- The line index is in sequence (R13). -/
def Src.inSequence (r : Src) (i : Nat) : Bool :=
  decide (i < r.height) && (match r.raster with | none => true | some p => decide (p < i))

/-- Whether LS marks and FS marks are decoded: in RUN, and not a mark that started before it (R22, R145). -/
def State.decodes (s : State) : Bool := s.ctl.st == .run && !s.src.lateMark

/-- An LS mark arrives (R13, R196): accepted, discarded or skipped. -/
def lsMark (mark : List Byte) (s : State) : State :=
  let s := failUnfinished s
  match readLs mark with
  | none => s
  | some i =>
    if s.src.lock = .locked ∧ s.src.frameOpen ∧ s.src.inSequence i then acceptLine i s else s

/-- A well-formed FS in LOCKING (R5). -/
def fsLocking (m : FsMark) (s : State) : State :=
  if s.src.sameGeometry m then admitFrame m (acquireLock s) else rememberGeometry m s

/-- An FS in LOCKED (R6): it ends the open frame, whose scan may start at that end (R50), and is then treated by kind. -/
def fsLocked (m : Option FsMark) (s : State) : State :=
  let ended := endFrame s
  match m with
  | none => ended
  | some m =>
    if s.src.sameGeometry m then admitFrame m (startAtEnd s.newFrameReady ended) else lockLoss .search ended

/-- An FS that loses the lock by its geometry (R6). -/
def State.losesLock (s : State) (mark : List Byte) : Bool :=
  s.src.lock == .locked && (readFs mark).any fun m => !s.src.sameGeometry m

/-- An FS mark arrives (R1, R4 to R6, R17, R21). In SILENT it is judged as in SEARCH (R8), the silence timer
staying stopped until a mark starts (DESIGN CHOICE, log 47). A line in progress fails first (log 13), except at a lock
loss, which discards it without an event (R28). -/
def fsMark (mark : List Byte) (s : State) : State :=
  let judged := if s.losesLock mark then s else failUnfinished s
  let s := judged.modSrc fun r => { r.discardGate with fill := none }
  match s.src.lock, readFs mark with
  | .locked, m => fsLocked m s
  | .locking, some m => fsLocking m s
  | .search, some m => setLock .locking (rememberGeometry m s)
  | .silent, some m => setLock .locking (rememberGeometry m s)
  | _, none => s

/-! ### Payload (R2, R3, R20) -/

/-- The silence timer restarts (R3): in RUN, unless the lock state is SILENT. -/
def restartSilence (s : State) : State :=
  whenever (s.ctl.st == .run && s.src.lock != .silent)
    (fun s => s.modSrc fun r => { r with silenceFrom := some s.now }) s

/-- Source pixel `x` is kept in the slot (R20). -/
def State.keepsPixel (s : State) (x : Nat) : Bool :=
  decide (s.cfg.left ≤ x) && decide (x < s.cfg.left + s.cfg.profile.w) && decide (x < s.src.width)

/-- A payload byte of the accepted line (R2, R20). -/
def takePayload (b : Byte) (s : State) : State :=
  match s.src.line with
  | none => s
  | some l =>
    let counted := { l with crc := crc16Byte l.crc b, count := l.count + 1 }
    match l.part with
    | [red, green] =>
      let s1 := s.modSrc fun r => { r with line := some { counted with part := [] } }
      whenever (l.claimed && s.keepsPixel (l.count / 3))
        (fun s => s.modLq fun q =>
          { q with ring := mapNewest (fun a => { a with pixels := a.pixels ++ [red ++ green ++ b] }) q.ring }) s1
    | part => s.modSrc fun r => { r with line := some { counted with part := part ++ [b] } }

/-- The received check against the line's own (R2). -/
def State.linePasses (s : State) (l : LineIn) (check : BitVec 16) : Bool :=
  l.crc == check && l.count == s.src.width * 3

/-! ### Station states (R22) -/

/-- The receiver when the station leaves RUN or changes between the other states: off in SLEEP and OVERHEAT (lock SEARCH,
log 16), the activity detector in STANDBY (lock SILENT, R22). -/
def stopReceiver (l : Lock) (s : State) : State :=
  (leaveLock l s).modSrc fun r => { r with silenceFrom := none }

/-- The receiver at an entry to RUN (R3, R22). -/
def startReceiver (s : State) : State :=
  (setLock .search s).modSrc fun r => { r with silenceFrom := some s.now, line := none }

end Sys2Proof.Machine
end

