-- ==== Sys2Proof/Machine/Loader.lean ====
section
/-! DEFINITION. The configuration loader: the image's fields (11.7, R198), the profile table (R184), the substitution slots (R185) and the checks (R183). -/

namespace Sys2Proof.Machine

/-- A byte of the image as a number; a byte that was not read reads 0. -/
def imageByte (image : List Byte) (i : Nat) : Nat :=
  match image[i]? with
  | some b => b.toNat
  | none => 0

/-- A field of two bytes, high byte first (11.7). -/
def imageWord (image : List Byte) (i : Nat) : Nat := 256 * imageByte image i + imageByte image (i + 1)

/-- The built-in records (R184). -/
def builtIn : Nat → Profile
  | 1 => { w := 1920, h := 1200, period := 690, minPeriod := 840, cold := 1660, hot := 1600, delay := 6500,
           coldStrobe := 1500, hotStrobe := 1000 }
  | 2 => { w := 1920, h := 1080, period := 460, minPeriod := 810, cold := 3330, hot := 2500, delay := 3500,
           coldStrobe := 1000, hotStrobe := 700 }
  | 3 => { w := 1280, h := 720, period := 1100, minPeriod := 810, cold := 1660, hot := 1600, delay := 0,
           coldStrobe := 0, hotStrobe := 0 }
  | 4 => { w := 1366, h := 768, period := 1020, minPeriod := 810, cold := 3330, hot := 2000, delay := 0,
           coldStrobe := 0, hotStrobe := 0 }
  | 5 => { w := 1600, h := 900, period := 880, minPeriod := 810, cold := 1660, hot := 1200, delay := 6500,
           coldStrobe := 1200, hotStrobe := 800 }
  | 6 => { w := 1024, h := 768, period := 1300, minPeriod := 1010, cold := 3330, hot := 2500, delay := 0,
           coldStrobe := 0, hotStrobe := 0 }
  | 7 => { w := 1920, h := 540, period := 1480, minPeriod := 810, cold := 1660, hot := 1600, delay := 7000,
           coldStrobe := 900, hotStrobe := 600 }
  | _ => { w := 1920, h := 1080, period := 740, minPeriod := 810, cold := 1660, hot := 1600, delay := 6000,
           coldStrobe := 1500, hotStrobe := 1000 }

/-- A profile with one of its nine fields replaced (R184, R185). -/
def Profile.setField (p : Profile) (field value : Nat) : Profile :=
  match field with
  | 0 => { p with w := value }
  | 1 => { p with h := value }
  | 2 => { p with period := value }
  | 3 => { p with minPeriod := value }
  | 4 => { p with cold := value }
  | 5 => { p with hot := value }
  | 6 => { p with delay := value }
  | 7 => { p with coldStrobe := value }
  | 8 => { p with hotStrobe := value }
  | _ => p

/-- The working copy with its slot counts (R185). -/
structure Substituted where
  profile : Profile
  applied : Nat
  ignored : Nat
  deriving DecidableEq, Repr

/-- One substitution slot, at byte `i` of the image, on the copy of profile `chosen` (R185, R198). -/
def takeSubstitution (image : List Byte) (chosen i : Nat) (c : Substituted) : Substituted :=
  let profile := imageByte image i % 16
  let field := imageByte image (i + 1)
  if profile = 15 then c
  else if 8 ≤ profile then { c with ignored := c.ignored + 1 }
  else if profile ≠ chosen then c
  else if 9 ≤ field then { c with ignored := c.ignored + 1 }
  else { c with profile := c.profile.setField field (imageWord image (i + 2)), applied := c.applied + 1 }

/-- The chosen profile after the three slots, in slot order (R185). -/
def substitute (image : List Byte) : Substituted :=
  let chosen := imageByte image 9
  takeSubstitution image chosen 22 (takeSubstitution image chosen 18 (takeSubstitution image chosen 14
    { profile := builtIn chosen, applied := 0, ignored := 0 }))

/-- Check 4: every field in its range (R182, R198). -/
def fieldsInRange (image : List Byte) : Bool :=
  decide (imageByte image 3 ≤ 3) && decide (imageByte image 4 ≤ 3) && decide (imageWord image 5 ≤ 8191) &&
    decide (imageWord image 7 ≤ 4094) && decide (imageByte image 9 ≤ 7) && decide (2 ≤ imageByte image 10) &&
    decide (imageByte image 10 ≤ 16) && decide (imageByte image 11 ≤ 2) && decide (imageByte image 12 ≤ 1) &&
    decide (imageByte image 13 ≤ 60)

/-- Check 5: the limits of R184. -/
def Profile.withinLimits (p : Profile) : Bool :=
  decide (1 ≤ p.w) && decide (p.w ≤ 1920) && decide (1 ≤ p.h) && decide (p.h ≤ 1200) &&
    decide (400 ≤ p.period) && decide (p.period ≤ 3000) && decide (810 ≤ p.minPeriod) && decide (p.minPeriod ≤ 65485) &&
    decide (810 ≤ p.cold) && decide (p.cold ≤ 65535) && decide (810 ≤ p.hot) && decide (p.hot ≤ 65535) &&
    decide (p.delay ≤ 65535) && decide (p.coldStrobe ≤ 65535) && decide (p.hotStrobe ≤ 65535)

/-- D in ns (R183). -/
def Profile.scanTime (p : Profile) : Nat := p.h * p.period * 10

/-- Check 6 (R183). -/
def windowFits (image : List Byte) (p : Profile) : Bool :=
  decide (imageWord image 5 + p.w ≤ 8192) && decide (imageWord image 7 + p.h ≤ 4095)

/-- Check 7 (R183). -/
def Profile.frameFits (p : Profile) : Bool := decide (p.scanTime + 100 * us ≤ p.minPeriod * 10 * us)

/-- Check 8 (R183). -/
def Profile.strobeFits (p : Profile) : Bool := decide ((p.delay + max p.coldStrobe p.hotStrobe) * us ≤ p.scanTime)

/-- The checks in their order; the first that fails gives the fault code (R183). -/
def checkImage (image : List Byte) : FaultCode :=
  let p := (substitute image).profile
  if ¬ (imageByte image 0 = 0x5A ∧ imageByte image 1 = 0x4B) then .signature
  else if imageByte image 2 ≠ 1 then .version
  else if (crc16 0xFFFF#16 (image.take 62)).toNat ≠ imageWord image 62 then .imageCrc
  else if ¬ fieldsInRange image then .fieldRange
  else if ¬ p.withinLimits then .profileLimit
  else if ¬ windowFits image p then .window
  else if ¬ p.frameFits then .framePeriod
  else if ¬ p.strobeFits then .strobe
  else .none

/-- The slots were taken: check 4 passed (R185, R187). -/
def slotsTaken : FaultCode → Bool
  | .signature | .version | .imageCrc | .fieldRange => false
  | _ => true

/-- The full configuration an image gives (R186). -/
def configOf (image : List Byte) : Cfg :=
  { left := imageWord image 5
    top := imageWord image 7
    profile := (substitute image).profile
    marginBase := imageByte image 10
    col := BitVec.ofNat 2 (imageByte image 3)
    row := BitVec.ofNat 2 (imageByte image 4)
    followWake := imageByte image 12 == 1
    identifySecs := imageByte image 13 }

/-- The bit time of a bus rate code (R68, R182). -/
def bitTimeOf : Nat → Nat
  | 1 => 500
  | 2 => 250
  | _ => 1000

/-- The bit time the end of BOOT hands over (R186, R187): the image's code once checks 1 to 3 have passed and the code is
valid, 1 Mbit/s otherwise. -/
def bootBitTime (image : List Byte) : FaultCode → Nat
  | .signature | .version | .imageCrc => 1000
  | _ => bitTimeOf (imageByte image 11)

/-- The fallback set of HALTED (R187): built-in profile 0, nothing else. -/
def fallbackConfig : Cfg := { Cfg.reset with profile := builtIn 0 }

/-- A timing set from a profile, with the strobe width of the WARM state (R65). -/
def Profile.timing (p : Profile) (warm : Bool) : Timing :=
  { period := p.period * 10, rows := p.h, delay := p.delay, strobe := if warm then p.hotStrobe else p.coldStrobe }

/-- A fault code's number (R183, R195). -/
def FaultCode.code : FaultCode → Nat
  | .none => 0 | .signature => 1 | .version => 2 | .imageCrc => 3 | .fieldRange => 4 | .profileLimit => 5
  | .window => 6 | .framePeriod => 7 | .strobe => 8

end Sys2Proof.Machine
end

