-- ==== Sys2Proof/Machine/Station.lean ====
section
/-! DEFINITION. The station controller's operations: resets and BOOT (R138, R180, R186, R187), the entries to RUN, STANDBY, SLEEP and OVERHEAT (R138 to R158), departures (R141), wakes (R145, R151), the sleep wake path (R147 to R150), and what is judged after every command. -/

namespace Sys2Proof.Machine

/-! ### Resets (R138) -/

/-- Every block at its values after reset; the clock, the queue of commands and the levels of the input pins stay. -/
def resetBlocks (s : State) : State :=
  { State.reset with
    now := s.now
    pending := s.pending
    ctl := { Ctl.reset with resetLow := s.ctl.resetLow, senseLow := s.ctl.senseLow, strapPins := s.ctl.strapPins } }

/-- BOOT begins with its reset cause, and the straps are read (R138, R180, R194). -/
def beginBoot (cause : ResetCause) (straps : StationNo) (s : State) : State :=
  (resetBlocks s).modCtl fun c =>
    { c with st := .boot, resetCause := cause, bootFrom := s.now, station := straps, strapPins := straps }

/-- Held in reset by RESETn: BOOT with cause PIN whose steps have not begun (R138). -/
def holdInReset (s : State) : State :=
  (resetBlocks s).modCtl fun c =>
    { c with st := .boot, resetCause := .pin, held := true, resetLow := true, bootFrom := s.now }

/-- The supplies fail: OFF (R138). -/
def supplyOff (s : State) : State := (resetBlocks s).modCtl fun c => { c with st := .off, resetCause := .none }

/-! ### Entries (R138, R139, R158) -/

/-- The detector where the station sleeps: waiting while it is wake-listening, else off (R147). -/
def State.detectorAtRest (s : State) : Detector := if s.wakeListening then .waiting else .off

/-- The full receiver comes on: the bit engine is WAIT_IDLE with its idle count at 0, and both runs start (R69, R71, R90). -/
def receiverOn (s : State) : State :=
  s.modBus fun b =>
    { b with engine := .waitIdle, idleCount := 0, runFrom := some s.now, recessiveFrom := some s.now }

/-- The full receiver goes off (R92, R149). -/
def receiverOff (s : State) : State :=
  s.modBus fun b =>
    { b with engine := .off, idleCount := 0, holdoff := none, runFrom := none, recessiveFrom := none }

/-- The bit engine at an entry to RUN (R92): WAIT_IDLE unless the bus is lost. The stuck-bus run of a receiver that was on
goes on; a muted station's recessive run is counted from here, the bus lost or not. A notice abandoned here does not clear the
wake hold-off (DESIGN CHOICE, log 43). -/
def rejoinWire (s : State) : State :=
  let counted := s.modBus fun b => { b with muteFrom := some s.now }
  if s.bus.engine = .lost then counted
  else
    (receiverOn counted).modBus fun b =>
      { b with runFrom := if s.bus.runFrom.isSome then s.bus.runFrom else some s.now }

/-- Entry to RUN from BOOT, SLEEP or OVERHEAT (R22, R45, R92, R94, R153, R158). -/
def enterRun (s : State) : State :=
  let here := s.modCtl fun c =>
    { c with
      st := .run, det := .off, sleepFails := 0, silentFrom := none
      supplyFrom := if c.senseLow then some s.now else none }
  setMembership here.returnState (rejoinWire (startReceiver here))

/-- Entry to STANDBY (R22, R29, R42, R45, R144, R158). The group values are kept through it (R136): the receiver stops in the
state entered. -/
def enterStandby (s : State) : State :=
  let here := s.modCtl fun c => { c with st := .standby, standbyPending := false, sleepFails := 0 }
  emptyLines (quietScan (stopReceiver .silent here))

/-- What entry to SLEEP and to OVERHEAT have in common (R22, R29, R41, R45, R92, R94, R158, R163). -/
def goDark (s : State) : State :=
  let stopped := clearRows (emptyLines (quietScan (stopReceiver .search s)))
  let silent := emptyQueue stopped
  let outside := setMembership .outside silent
  let settled := outside.modCtl fun c =>
    { c with
      departure := none, standbyPending := false, sleepFails := 0, silentFrom := none, supplyFrom := none }
  settled.modOvl fun o => { o with identifyUntil := 0 }

/-- The attempt in the register ends without an outcome (R85); a COUNT removed so is WITHDRAWN (R175). -/
def releaseRegister (s : State) : State :=
  let told := match s.bus.reg with
    | some r => whenever (r.kind == Kind.count && s.bus.q.count.isNone) (setOutcome .withdrawn) s
    | none => s
  told.modBus fun b => { b with reg := none }

/-- Entry to SLEEP (R147, R158). -/
def enterSleep (cause : SleepCause) (s : State) : State :=
  let dark := receiverOff (goDark s)
  let asleep := dark.modCtl fun c =>
    { c with st := .sleep, sleepCause := cause, forcedListen := cause == .forced }
  asleep.modCtl fun c => { c with det := asleep.detectorAtRest }

/-- Entry to OVERHEAT (R156, R158); the OVERHEAT flag is set. -/
def enterOverheat (s : State) : State :=
  let dark := receiverOn ((goDark (releaseRegister s)).modBus fun b => { b with holdoff := none })
  setFlag .overheat (dark.modCtl fun c => { c with st := .overheat, det := .off })

/-! ### Wakes (R145, R151) -/

/-- A wake is shown: WOKE and its cause (R158). -/
def recordWake (cause : WakeCause) (s : State) : State :=
  setFlag .woke (s.modCtl fun c => { c with wakeCause := cause })

/-- A wake from STANDBY (R145): a mark that started before it is not decoded. The group values, kept in STANDBY, are
recomputed (R136, log 38). -/
def wakeFromStandby (cause : WakeCause) (s : State) : State :=
  let back := recompute (s.modCtl fun c => { c with st := .run, sleepFails := 0 })
  recordWake cause ((startReceiver back).modSrc fun r => { r with lateMark := true })

/-- A wake from SLEEP (R151): into RUN, or into OVERHEAT at 115 °C or more, which keeps the last wake cause. WOKE is set at
either (R158). -/
def wakeFromSleep (cause : WakeCause) (s : State) : State :=
  if 115 ≤ s.ctl.temp then setFlag .woke (enterOverheat s) else recordWake cause (enterRun s)

/-- Queues a WAKE with a mask (R145, R152). -/
def queueWake (mask : BitVec 16) (s : State) : State := queueNotice .wake (beBytes 2 mask.toNat) none s

/-- Source activity in STANDBY (R145). -/
def sourceWakes (s : State) : State := wakeFromStandby .source (queueWake 0xFFFF#16 s)

/-! ### The sleep wake path (R147 to R150) -/

/-- Back to the detector (R149). -/
def backToDetector (s : State) : State :=
  (receiverOff s).modCtl fun c => { c with det := s.detectorAtRest }

/-- In a decode window. -/
def State.inDecodeWindow (s : State) : Bool :=
  s.ctl.st == .sleep && (match s.ctl.det with | .window _ => true | _ => false)

/-- A discarded notice in a decode window (R149, R150). -/
def windowFailure (s : State) : State :=
  let counted := s.modCtl fun c => { c with sleepFails := c.sleepFails + 1 }
  if 4 ≤ s.ctl.sleepFails + 1 then wakeFromSleep .failsafe counted else backToDetector counted

/-- An accepted notice in a decode window (R149); `addressed` says that it is a WAKE whose mask has the station's bit. -/
def windowAccepted (addressed : Bool) (s : State) : State :=
  let counted := s.modCtl fun c => { c with sleepFails := 0 }
  if addressed then wakeFromSleep .notice counted else backToDetector counted

/-- The forced-listen latch is cleared; a station that is then no longer wake-listening drops the sleep wake path (R147,
R192). -/
def clearForcedListen (s : State) : State :=
  let cleared := s.modCtl fun c => { c with forcedListen := false }
  if s.ctl.st = .sleep ∧ cleared.wakeListening = false then (receiverOff cleared).modCtl fun c => { c with det := .off }
  else cleared

/-! ### Departures (R141) -/

/-- Ranks: HEAT above SUPPLY above SLEEP (R141). -/
def DepReason.rank : DepReason → Nat
  | .sleep => 0 | .supply => 1 | .heat => 2

/-- Queues the LEAVE of a departure (R141). -/
def queueLeave (reason : Byte) (s : State) : State := queueNotice .leave [reason] none s

/-- The departure is pending from now on; the standby-pending mark is cleared at its start (R143). Where a HEAT departure
replaces a SUPPLY departure whose decision has cut the scan, scans may start again until the entry (DESIGN CHOICE,
log 39). -/
def setDeparture (r : DepReason) (leaveOver : Bool) (s : State) : State :=
  s.modCtl fun c =>
    { c with
      departure := some { reason := r, queuedAt := s.now, leaveEnded := leaveOver, decided := false }
      standbyPending := false }

/-- A departure begins (R141): it replaces one of lower rank, and queues its LEAVE unless that one's LEAVE has ended. -/
def beginDeparture (r : DepReason) (s : State) : State :=
  match s.ctl.departure with
  | none => setDeparture r false (queueLeave r.leaveByte s)
  | some d =>
    if r.rank ≤ d.reason.rank then s
    else if d.leaveEnded then setDeparture r true s
    else setDeparture r false (queueLeave r.leaveByte s)

/-- The LEAVE has ended or 2 ms have passed since its queuing (R141). -/
def Departure.ripe (d : Departure) (now : Nat) : Bool := d.leaveEnded || decide (d.queuedAt + 2 * ms ≤ now)

/-- A SUPPLY departure's decision: the scan is cut and no scan starts until the entry (R48, R141). -/
def decideSupply (s : State) : State :=
  (cutScan s).modCtl fun c => { c with departure := c.departure.map fun d => { d with decided := true } }

/-- The entry a departure has reached, if it has (R141). An entry to SLEEP waits for an empty transmit register; a SUPPLY
departure's decision comes first. -/
def departureStep (s : State) : State :=
  match s.ctl.departure with
  | none => s
  | some d =>
    if !d.ripe s.now then s
    else match d.reason with
      | .heat => enterOverheat (cutScan s)
      | .sleep => if s.scanning || s.bus.reg.isSome then s else enterSleep .command s
      | .supply =>
        let decided := decideSupply s
        if s.bus.reg.isSome then decided else enterSleep .forced decided

/-- `departureStep` has something to do. -/
def State.departureDue (s : State) : Bool :=
  match s.ctl.departure with
  | none => false
  | some d =>
    d.ripe s.now &&
      (match d.reason with
       | .heat => true
       | .sleep => !s.scanning && s.bus.reg.isNone
       | .supply => s.bus.reg.isNone || !d.decided)

/-! ### Standby (R142, R143) -/

/-- Every MEMBER entry has an in-use announcement that carries SOURCE_LOST (R142). -/
def membersLost : List (Nat × Peer) → Bool
  | [] => true
  | (_, p) :: rest =>
    (p.state != .member || (match p.inUse with | some a => a.flags.sourceLost | none => false)) && membersLost rest

/-- The standby condition (R142). -/
def State.standbyHolds (s : State) : Bool :=
  s.freeRun && s.grp.membership == .member && passed s.ctl.silentFrom (200 * ms) s.now && membersLost s.grp.peers

/-- The standby condition is judged (R142): STANDBY is queued when it becomes true and withdrawn when it becomes false. The
withdrawal is remembered for a STANDBY whose attempt runs (DESIGN CHOICE, log 46). -/
def judgeStandby (s : State) : State :=
  let holds := s.standbyHolds
  let noted := s.modJudged fun j => { j with standby := holds }
  if holds && !s.judged.standby then queueNotice .standby [] none noted
  else if !holds && s.judged.standby then withdraw .standby noted
  else noted

/-- A STANDBY notice acts (R143): heard, or completed as the station's own. -/
def standbyNotice (s : State) : State :=
  if !s.freeRun then s
  else
    let marked := withdraw .standby (s.modCtl fun c => { c with standbyPending := true })
    if s.scanning then marked else enterStandby marked

/-! ### BOOT (R180, R186, R187) -/

/-- CONFIG_READ's effect: the image copy, the checks, the slot counts (R181, R183, R185). -/
def takeImage (image : List Byte) (s : State) : State :=
  let fault := checkImage image
  let counts := substitute image
  s.modLdr fun _ =>
    { image := image, imageRead := true, fault := fault
      applied := if slotsTaken fault then counts.applied else 0
      ignored := if slotsTaken fault then counts.ignored else 0 }

/-- The full configuration is handed over (R45, R65, R186). -/
def handOver (s : State) : State :=
  let c := configOf s.ldr.image
  let t := c.profile.timing s.ctl.warm
  let configured := { s with cfg := c }
  let scanned := configured.modScan fun e =>
    { e with
      margin := c.marginBase, ownLead := c.profile.h, holdInUse := configured.ownHold, shadow := t, active := t }
  setGroupValues scanned

/-- The fallback set is handed over and CONFIG_FAULT set (R187). The group values are those of an empty table (R136). The own
lead and the own hold limit in use stay 0: R187 hands the scan engine nothing beside the timing, where R45 gives both a value
at the end of BOOT, and the group hold is clamped by the minimum frame period of the fallback profile (DESIGN CHOICE, log 28). -/
def fallBack (s : State) : State :=
  let t := fallbackConfig.profile.timing s.ctl.warm
  let configured := { s with cfg := fallbackConfig }
  setFlag .configFault (setGroupValues (configured.modScan fun e => { e with shadow := t, active := t }))

/-- The end of BOOT (R180): RUN when every check passed, HALTED otherwise. -/
def finishBoot (s : State) : State :=
  let timed := s.modBus fun b => { b with bitTime := bootBitTime s.ldr.image s.ldr.fault }
  if s.ldr.fault = .none then
    let run := enterRun (handOver timed)
    startIdentify run.cfg.identifySecs run
  else (receiverOn (fallBack timed)).modCtl fun c => { c with st := .halted }

/-- BOOT has run its 5 ms with the image read (R180). -/
def State.bootOver (s : State) : Bool :=
  s.ctl.st == .boot && !s.ctl.held && s.ldr.imageRead && decide (s.ctl.bootFrom + 5 * ms ≤ s.now)

/-! ### Temperature and supply (R153 to R157) -/

/-- WARM after a reading (R155). -/
def warmAfter (warm : Bool) (d : Int) : Bool := decide (100 ≤ d) || (warm && decide (90 ≤ d))

/-- A change of WARM (R155): the shadow set's strobe width (R65), the own hold (R58, R126), and the WARM flag when it
becomes set. -/
def setWarm (w : Bool) (s : State) : State :=
  let changed := s.modCtl fun c => { c with warm := w }
  let shadowed := changed.modScan fun e =>
    { e with shadow := { e.shadow with strobe := (s.cfg.profile.timing w).strobe } }
  whenever w (setFlag .warm) (ownValueChanged shadowed)

/-- A temperature reading (R155 to R157). -/
def takeReading (d : Int) (s : State) : State :=
  let w := warmAfter s.ctl.warm d
  let read := whenever (w != s.ctl.warm) (setWarm w) (s.modCtl fun c => { c with temp := d })
  match s.ctl.st with
  | .run | .standby => whenever (decide (115 ≤ d)) (beginDeparture .heat) read
  | .halted | .sleep => whenever (decide (115 ≤ d) && decide (s.ctl.temp < 115)) (setFlag .overheat) read
  | .overheat => whenever (decide (d < 95)) enterRun read
  | .off | .boot => read

/-- The level of the supply sense changes (R153): the supply-low timer runs in RUN and STANDBY while it is low. -/
def takeSense (low : Bool) (s : State) : State :=
  s.modCtl fun c =>
    { c with
      senseLow := low
      supplyFrom :=
        if low && (c.st == .run || c.st == .standby) then (if c.supplyFrom.isSome then c.supplyFrom else some s.now)
        else none }

/-- The supply-low timer has reached 50 ms and begins a departure (R153). -/
def State.supplyDue (s : State) : Bool :=
  (s.ctl.st == .run || s.ctl.st == .standby) && passed s.ctl.supplyFrom (50 * ms) s.now &&
    (match s.ctl.departure with | none => true | some d => d.reason == .sleep)

/-! ### What is judged after every command -/

/-- A change of the own lead, the own hold or a flag queues a STATUS in JOINING and MEMBER (R121). -/
def announceChange (before after : State) : State :=
  whenever
    (after.grp.membership.active &&
      (before.scan.ownLead != after.scan.ownLead || before.ownHold != after.ownHold || before.ownFlags != after.ownFlags))
    queueStatus after

/-- The minimum-period wait is over once a command finds the period passed and no start that waited for it (R52, log 12): a
start whose last condition comes later is not deferred by the period. -/
def judgePeriod (before after : State) : State :=
  whenever (after.periodPassed && !before.startWaits) (fun s => s.modJudged fun j => { j with period := false }) after

/-- The standing judgements: the minimum-period wait (R52), STATUS for a changed value (R121), the REFUSE that is due (R105),
the standby condition (R142). See log 19. -/
def settle (before after : State) : State :=
  judgeStandby (refuseUpkeep (announceChange before (judgePeriod before after)))

/-- A command at moment `t` (log 1): the clock moves, the effect happens, the standing judgements follow. -/
def act (t : Nat) (f : State → State) (s : State) : Answer :=
  .next (settle (s.advance t) (f (s.advance t)))

end Sys2Proof.Machine
end

