-- ==== Sys2Proof/Machine/Transmit.lean ====
section
/-! DEFINITION. Sending: the start of an attempt (R75, R82, R86), its return to the slot (R83), failures and drops (R81), and what a completion does for each kind (R81, R102, R105, R123, R131, R141, R143, R165, R176). -/

namespace Sys2Proof.Machine

/-! ### Starting (R75, R82, R83, R86) -/

/-- The non-empty slot of the lowest code (R75). -/
def TxQueue.lowest (q : TxQueue) : Option Kind := Kind.all.find? fun k => (q.get k).isSome

/-- An attempt can begin (R75, R87). -/
def State.canSend (s : State) : Bool :=
  s.bus.engine == .idle && s.driverEnabled && s.bus.holdoff.isNone && s.bus.reg.isNone && s.bus.q.lowest.isSome

/-- The epoch field of an attempt (R82): held by a REPEAT or a RETRY, else the epoch at the start bit. -/
def State.epochField (s : State) (n : Queued) : Epoch :=
  match n.epoch with
  | some e => e
  | none => s.grp.epoch

/-- The start bit of the notice in the register is sent (R82, R83): its epoch field and its bits are fixed, and a COUNT is
SENT (R175). -/
def sendStartBit (r : TxReg) (s : State) : State :=
  let e := s.epochField r.notice
  let sent := s.modBus fun b =>
    { b with
      engine := .sending
      idleCount := 0
      runFrom := some s.now
      startEpoch := s.grp.epoch
      reg := some { r with
        epoch := e, startedAt := s.now, bits := noticeBits r.kind.code s.own e r.notice.payload } }
  whenever (r.kind == .count) (setOutcome .sent) sent

/-- The notice of the lowest code moves into the register, its slot EMPTY, and its attempt begins: with a start bit, or for
a WAKE with the preamble (R75, R83, R86). -/
def beginAttempt (s : State) : State :=
  match s.bus.q.lowest with
  | none => s
  | some k =>
    match s.bus.q.get k with
    | none => s
    | some n =>
      let r : TxReg :=
        { kind := k, notice := n, epoch := s.grp.epoch, withdrawn := false, startedAt := s.now, bits := [] }
      let moved := setSlot k none s
      if k = .wake then
        moved.modBus fun b => { b with engine := .wakeSend, idleCount := 0, runFrom := some s.now, reg := some r }
      else sendStartBit r moved

/-- A dominant bit that another station drives is read from now on (R69, R71, R75, R90). In IDLE it is a start bit and the
engine receives, the start epoch of R134 being the station's epoch now; in WAIT_IDLE and on a lost bus the idle count is 0. The
stuck-bus run starts with it, and the recessive run anew after it. -/
def readDominant (s : State) : State :=
  match s.bus.engine with
  | .idle =>
    s.modBus fun b =>
      { b with
        engine := .receiving, idleCount := 0, startEpoch := s.grp.epoch, runFrom := some s.now
        recessiveFrom := some (s.now + b.bitTime) }
  | .waitIdle | .lost =>
    s.modBus fun b => { b with idleCount := 0, runFrom := some s.now, recessiveFrom := some (s.now + b.bitTime) }
  | .off | .sending | .receiving | .wakeSend => s

/-- An attempt starts on the wire (R75): the station's own where it can send, all waiting stations starting in the same bit;
otherwise a dominant bit of another station's is read, if one was. -/
def attemptStarts (heard : Bool) (s : State) : State :=
  if s.canSend then beginAttempt s else whenever heard readDominant s

/-! ### Ends of an attempt (R81, R83) -/

/-- The register is emptied. -/
def clearReg (s : State) : State := s.modBus fun b => { b with reg := none }

/-- The outcome of the last own COUNT moves with an attempt of a COUNT, unless a newer COUNT waits (R175, log 29); where a
newer one was withdrawn, the attempt still in the register writes over its WITHDRAWN (DESIGN CHOICE, log 45). -/
def countFate (k : Kind) (o : CountOutcome) (s : State) : State :=
  whenever (k == .count && s.bus.q.count.isNone) (setOutcome o) s

/-- The notice returns to its slot (R83), unless a newer one is there or it was withdrawn. A COUNT then waits again; one
that was withdrawn is WITHDRAWN (R175, log 21). -/
def returnNotice (r : TxReg) (n : Queued) (s : State) : State :=
  let s := clearReg s
  if r.withdrawn then countFate r.kind .withdrawn s
  else if (s.bus.q.get r.kind).isSome then s
  else setSlot r.kind (some n) (countFate r.kind .waiting s)

/-- A notice was dropped, and its queuer is told (R81, R102, R121, R141, R142, R175). A dropped REFUSE stays due and is
queued again by the standing judgement (R105). -/
def noticeDropped (r : TxReg) (s : State) : State :=
  match r.kind with
  | .leave => leaveEnded r.notice.payload s
  | .join => whenever (s.grp.membership == .joining) (setMembership .listening) s
  | .status => whenever s.grp.membership.active queueStatus s
  | .standby => whenever s.standbyHolds (queueNotice .standby [] none) s
  | .count => countFate .count .dropped s
  | .rep | .refuse | .wake | .ident => s

/-- A failed attempt or a bit error (R81): a REPEAT is dropped, a third failure drops and raises RETRIES_EXHAUSTED, any
other returns as a RETRY that holds the epoch it was sent with. RETRIES_EXHAUSTED is raised after NOTICES_SENT or
NOTICE_ERRORS and before the queuer is told of the drop (DESIGN CHOICE, log 37). -/
def failAttempt (r : TxReg) (s : State) : State :=
  let fails := r.notice.fails + 1
  if r.kind = .rep then noticeDropped r (clearReg s)
  else if 3 ≤ fails then noticeDropped r (raise .retriesExhausted (clearReg s))
  else returnNotice r { r.notice with fails := fails, epoch := some r.epoch } s

/-- The time of `n` bits, in ns (R68). -/
def State.bitsLong (s : State) (n : Nat) : Nat := n * s.bus.bitTime

/-- The stuck-bus run (R90) where the wire has read dominant for `age` ns and no recessive bit since; with `age` 0 none goes
on. It never reaches back beyond a restart already noted. -/
def Bus.stuckRun (b : Bus) (now age : Nat) : Nat := if age = 0 then now else max (b.runFrom.getD 0) (now - age)

/-- The bit engine leaves a notice, `run` recessive bits ending what it has read (R69, R71, log 10): IDLE from nine of them
on, else WAIT_IDLE. The level that ends what was read has lasted for `age` ns: the recessive run where `run` is not 0, else
the stuck-bus run (R89, R90). -/
def leaveWire (run age : Nat) (s : State) : State :=
  s.modBus fun b =>
    { b with
      engine := if 9 ≤ run then .idle else .waitIdle
      idleCount := min 9 run
      recessiveFrom := some (if run = 0 then s.now else s.now - age)
      runFrom := some (if run = 0 then b.stuckRun s.now age else s.now) }

/-! ### REPEAT (R127 to R131) -/

/-- The states in which a REPEAT is acted on (R127). -/
def State.actsOnRepeat (s : State) : Bool :=
  s.ctl.st == .run &&
    (match s.grp.membership with
     | .listening | .joining | .member | .listener | .refused | .duplicate => true
     | .outside | .alone => false)

/-- How a REPEAT with epoch `e` is judged (R127 to R130). -/
def State.repeatOutcome (s : State) (e : Epoch) : RepeatOutcome :=
  if e = s.grp.epoch ∧ s.scanning = false then .taken
  else if e = s.grp.epoch - 1 ∧ s.scan.st = .wait ∧ s.grp.admMark.isSome ∧
      s.grp.admMark = s.scan.waiting.map (·.serial) then .resequenced
  else .ignored

/-- The states in which an ignored REPEAT is a step slip (R130). -/
def Membership.slipsOnIgnored : Membership → Bool
  | .member | .joining | .listener => true
  | _ => false

/-- A REPEAT is judged (R127 to R132). -/
def judgeRepeat (e : Epoch) (s : State) : State :=
  let o := s.repeatOutcome e
  let noted := s.modGrp fun g => { g with lastRepeat := o }
  match o with
  | .taken | .resequenced => repeatOrder (increment none noted)
  | _ => whenever s.grp.membership.slipsOnIgnored stepSlip noted

/-! ### Completions (R81) -/

/-- A REFUSE for another station: its entry goes, and a REFUSED station tries again (R106, R107). -/
def refuseOther (target : Nat) (s : State) : State := refusedRetry (removePeer target s)

/-- The own REFUSE has completed: it acts as on hearing it (R105, R106). -/
def refuseCompleted (payload : List Byte) (s : State) : State :=
  match payload with
  | b :: _ => whenever s.tableKept (refuseOther (refuseTarget b)) s
  | [] => s

/-- The own STATUS has completed with epoch field `c` (R123). -/
def statusCompleted (payload : List Byte) (c : Epoch) (s : State) : State :=
  match payload with
  | [b3, b2, b1, b0] => ownAnnounce (Ann.decode (b3 ++ b2 ++ b1 ++ b0)) c s
  | _ => s

/-- A COUNT acts (R176, R197): heard, or completed as the station's own. -/
def countNotice (c : Epoch) (action : Byte) (s : State) : State :=
  match CountAction.read action with
  | some a => whenever (s.ctl.st == .run || s.ctl.st == .standby) (takeCount c a) s
  | none => s

/-- What a completion does (R81): each queuer is told, with the epoch field. -/
def noticeCompleted (r : TxReg) (s : State) : State :=
  match r.kind with
  | .rep => whenever s.actsOnRepeat (judgeRepeat r.epoch) s
  | .refuse => refuseCompleted r.notice.payload s
  | .leave => leaveEnded r.notice.payload s
  | .join =>
    whenever (s.grp.membership == .joining)
      (fun s => s.modGrp fun g => { g with ownWindowEnd := some (s.now + 8 * ms) }) s
  | .status => statusCompleted r.notice.payload r.epoch s
  | .wake => s
  | .standby => standbyNotice s
  | .count =>
    match r.notice.payload with
    | a :: _ => countNotice r.epoch a (countFate .count .completed s)
    | [] => s
  | .ident =>
    match r.notice.payload with
    | n :: _ => whenever (!r.withdrawn) (startIdentify n.toNat) s
    | [] => s

/-- The end of an attempt (R81). NOTICES_SENT is raised before what the completion does: a DESIGN CHOICE (log 37). -/
def finishAttempt (r : TxReg) (nak : Bool) (ends : BitVec 7) (s : State) : State :=
  let run := endRun r.bits nak ends
  let sent := raise .noticesSent (leaveWire run (s.bitsLong (run + endLow nak ends)) s)
  if ends = cleanEnds ∧ (nak = false ∨ r.kind = .rep) then noticeCompleted r (clearReg sent) else failAttempt r sent

/-! ### Losing the wire (R76, R77, R86, R88) -/

/-- The notice goes back as after an arbitration loss (R83). -/
def giveWay (r : TxReg) (s : State) : State := returnNotice r r.notice s

/-- A loss after the station field (R77): the notice is not returned but goes with the emptying of the queue, and its queuer
is told (R85). -/
def loseToOwnNumber (r : TxReg) (s : State) : State :=
  let told := countFate r.kind .withdrawn (clearReg s)
  duplicateFound (whenever (r.kind == .leave) (leaveEnded r.notice.payload) told)

/-- An arbitration loss at bit `pos` (R76, R77): a dominant bit of another station's has been read, with which the stuck-bus run
starts, since the bit before it was recessive or the station's own (R90). ARB_LOSSES is raised before the move to DUPLICATE or the return
to the slot (DESIGN CHOICE, log 41). -/
def loseArbitration (r : TxReg) (pos : Nat) (s : State) : State :=
  let lost := raise .arbLosses (s.modBus fun b =>
    { b with
      engine := .receiving, idleCount := 0, runFrom := some s.now, recessiveFrom := some (s.now + b.bitTime) })
  if stationFieldEnd r.kind.code s.own ≤ pos then loseToOwnNumber r lost else giveWay r lost

/-- The recessive bits that end what a sender has read up to and with a bit error at `pos` (R69): the bits before it were read
as driven, and before the start bit the wire was idle. -/
def errorRun (bits : List Bool) (pos : Nat) : Nat := trailing (List.replicate 9 true ++ bits.take pos) + 1

/-- A bit error at bit `pos` (R76, R81). -/
def bitErrorAt (r : TxReg) (pos : Nat) (s : State) : State :=
  let run := errorRun r.bits pos
  failAttempt r (raise .noticeErrors (leaveWire run (s.bitsLong run) s))

/-- A third mute within 256 epochs (R89). -/
def State.thirdMute (s : State) : Bool := decide (2 ≤ s.bus.muteAges.length)

/-- The mute becomes permanent (R89): LISTENER where the membership state allows it, and the queue emptied (R85). -/
def mutePermanently (s : State) : State :=
  let muted := s.modBus fun b => { b with mute := .permanent }
  match s.grp.membership with
  | .outside | .alone | .duplicate => emptyQueue muted
  | _ => setMembership .listener muted

/-- The driver is muted (R88, R89). Both runs of the wire start at the mute. A lost bus stays LOST (log 17). -/
def muteDriver (s : State) : State :=
  let flagged := setFlag .muted (s.modBus fun b =>
    { b with
      muteCount := satInc b.muteCount, mute := .muted, idleCount := 0
      engine := if b.engine = .lost then .lost else .waitIdle
      runFrom := some s.now, recessiveFrom := some s.now, muteFrom := some s.now })
  let back := match s.bus.reg with
    | some r => giveWay r flagged
    | none => flagged
  if s.thirdMute then mutePermanently back
  else back.modBus fun b => { b with muteAges := b.muteAges ++ [0] }

end Sys2Proof.Machine
end

