-- ==== Sys2Proof/Machine/Receive.lean ====
section
/-! DEFINITION. Receiving: which notices are heard (R71, R78), what every accepted notice does (R96, R112, R113, R133, R149), and what each kind does (R99 to R108, R122, R127, R143, R145, R164, R176). -/

namespace Sys2Proof.Machine

/-! ### The wire at a notice's end (R69, R71, R87) -/

/-- The bit engine receives a notice, from its start bit on (R71, R78). -/
def State.hears (s : State) : Bool := s.bus.engine == .receiving

/-- A notice ends for this receiver, `run` recessive bits ending what it has read, its last level having lasted for `age` ns
(R69, R90). The wake hold-off is cleared (R87), at an error too, before the wire is idle again (DESIGN CHOICE, log 43); `drove`
says whether this station drove the NAK slot (R78, R79). -/
def noticeOver (run age : Nat) (drove : Bool) (s : State) : State :=
  leaveWire run age (s.modBus fun b => { b with holdoff := none, nakDriven := drove })

/-- A notice is discarded for an error (R78 to R80, R91, R149). -/
def discardNotice (run age : Nat) (drove : Bool) (s : State) : State :=
  whenever s.inDecodeWindow windowFailure (raise .noticeErrors (noticeOver run age drove s))

/-! ### Liveness and SILENT entries (R96, R111, R112) -/

/-- The sender's entry is heard (R96). -/
def heardFrom (x : Nat) (s : State) : State :=
  match s.peer x with
  | some p => setPeer x { p with heard := 0 } s
  | none => s

/-- A SILENT entry heard again is re-checked, whatever the kind (R112). One already owed a refusal whose check is now clear
becomes MEMBER with the refusal still due (DESIGN CHOICE, log 18). -/
def recheckSilent (x : Nat) (s : State) : State :=
  match s.peer x with
  | none => s
  | some p =>
    if p.state ≠ .silent then s
    else match p.join.bind (s.checkEntry x) with
      | none => recompute (setPeer x { p with state := .member } s)
      | some r => whenever s.grp.membership.active (setPeer x { p with due := some r }) s

/-! ### Kinds: membership notices (R99 to R101, R106, R108) -/

/-- An entry created by a STATUS (R96). -/
def statusPeer : Peer :=
  { state := .member, join := none, order := none, windowEnd := none, inUse := none, pend := none, heard := 0, due := none }

/-- The JOIN is a retry of one already accepted, or its sender is owed a refusal (R101). -/
def Peer.keepsAtJoin (p : Peer) (j : JoinRec) : Bool :=
  p.state == .pending && ((p.join == some j && p.windowEnd.isSome) || p.due.isSome)

/-- The entry of `x` created or renewed by a JOIN (R96, R97, R99 to R101): its old rank is removed first, and it is owed a
refusal or its window runs. -/
def renewPeer (x : Nat) (j : JoinRec) (s : State) : State :=
  let due := if s.grp.membership.active then s.checkJoin x j else none
  let old := s.peer x
  let table := dropPeer x s.grp.peers
  let fresh : Peer :=
    { state := .pending
      join := some j
      order := some (maxOrder table + 1)
      windowEnd := if due.isSome then none else some (s.now + 8 * ms)
      inUse := old.bind (·.inUse)
      pend := old.bind (·.pend)
      heard := 0
      due := due }
  let renewed := s.modGrp fun g => { g with peers := Sparse.put x fresh table }
  whenever ((old.map (·.state)) == some .member) recompute renewed

/-- A JOIN from another station (R99 to R101); one of the station's own number is not checked and makes no entry (R113). -/
def joinEffect (x : Nat) (j : JoinRec) (s : State) : State :=
  if !s.tableKept || x == s.own then s
  else match s.peer x with
    | some p => if p.keepsAtJoin j then s else renewPeer x j s
    | none => renewPeer x j s

/-- A REFUSE naming `target` (R106, R107). -/
def refuseEffect (sender : StationNo) (target : Nat) (reason : BitVec 2) (s : State) : State :=
  if !s.tableKept then s
  else if target = s.own then bindRefusal { refuser := .station sender, reason := reason } s
  else refuseOther target s

/-- A LEAVE from `x` (R107, R108); one that carries the station's own number removes no entry (R113). -/
def leaveEffect (x : Nat) (s : State) : State :=
  if !s.tableKept then s else refusedRetry (whenever (x != s.own) (removePeer x) s)

/-! ### Kinds: STATUS, WAKE, IDENT (R96, R122, R145, R164) -/

/-- A STATUS from another station with epoch field `c` (R96, R122); one of the station's own number is not taken as an
announcement (R113). -/
def statusEffect (x : Nat) (c : Epoch) (a : Ann) (s : State) : State :=
  if !s.tableKept || x == s.own then s
  else
    let p := (s.peer x).getD statusPeer
    let told := setPeer x (p.announce a c s.grp.epoch) s
    whenever (!stillAhead (c + 2) s.grp.epoch || (s.peer x).isNone) recompute told

/-- The mask of a waiting WAKE (11.6). -/
def waitingMask (n : Queued) : BitVec 16 := BitVec.ofNat 16 (n.payload.foldl (fun v b => 256 * v + b.toNat) 0)

/-- A WAKE from another station: an own WAKE that it covers is withdrawn, and a station in STANDBY that it names wakes
(R145). In SLEEP the decode window decides (R149). -/
def wakeEffect (mask : BitVec 16) (s : State) : State :=
  if s.ctl.departure.isSome then s
  else
    let covered := match s.bus.q.wake with
      | some n => waitingMask n &&& mask == waitingMask n
      | none => false
    let told := whenever covered (withdraw .wake) s
    whenever (s.freeStandby && mask.getLsbD s.own) (wakeFromStandby .notice) told

/-- An IDENT (R164). -/
def identEffect (n : Byte) (s : State) : State :=
  let told := whenever (s.bus.q.ident.map (·.payload) == some [n]) (withdraw .ident) s
  whenever ((s.ctl.st == .run || s.ctl.st == .standby) && decide (1 ≤ n.toNat) && decide (n.toNat ≤ 60))
    (startIdentify n.toNat) told

/-! ### Kinds: REPEAT (R127) -/

/-- A REPEAT from another station: the own waiting REPEAT is withdrawn, and the notice judged (R127). -/
def repeatEffect (e : Epoch) (s : State) : State :=
  whenever s.actsOnRepeat (fun s => judgeRepeat e (withdrawUnsent .rep s)) s

/-! ### The accepted notice (R78) -/

/-- The table's part of hearing a sender other than this station (R96, R112). -/
def hearSender (x : Nat) (s : State) : State := whenever s.tableKept (fun s => recheckSilent x (heardFrom x s)) s

/-- An accepted notice (R78): the wire, then a notice of the station's own number (R113) or the sender's entry (R96, R112),
the kind's own effect, and last `finish`, which sees the states before and after the effect. The sender is heard before an
increment that its REPEAT brings (R96, R111; DESIGN CHOICE, log 44). -/
def acceptNotice (k : Kind) (h : Rx) (payload : List Byte) (effect : State → State) (finish : State → State → State)
    (s : State) : State :=
  if !s.hears then s
  else
    let bits := noticeBits k.code h.sender.toNat h.epoch payload
    let run := endRun bits h.nak cleanEnds
    let ended := noticeOver run (s.bitsLong run) false s
    let x := h.sender.toNat
    if x = s.own then effect (duplicateFound ended)
    else
      let known := hearSender x ended
      finish known (effect known)

/-- What follows the effect of a notice of any kind but REPEAT: the adoption test, with the epoch field (R133, R134). -/
def testSender (h : Rx) (_known done : State) : State := adoptionTest h.sender.toNat h.epoch false done

/-- A notice that counts for liveness alone is followed by nothing (R197). -/
def testNothing (_known done : State) : State := done

/-- What follows a STANDBY: the adoption test where it acts. Outside RUN and while a departure is pending it does nothing beyond
the liveness of its sender (R143). -/
def testStandby (h : Rx) (known done : State) : State := whenever known.freeRun (testSender h known) done

/-- The end of a decode window with this notice (R149). -/
def closeWindow (addressed : Bool) (inWindow : Bool) (s : State) : State :=
  whenever inWindow (windowAccepted addressed) s

/-- An accepted notice of a kind other than REPEAT, COUNT and STANDBY. `addressed` matters in a decode window alone (R149). -/
def acceptPlain (k : Kind) (h : Rx) (payload : List Byte) (addressed : Bool) (effect : State → State) (s : State) : State :=
  closeWindow addressed (s.hears && s.inDecodeWindow) (acceptNotice k h payload effect (testSender h) s)

/-- An accepted COUNT (R176): one whose action byte is not 1 to 3 counts for liveness alone (R197). -/
def acceptCount (h : Rx) (action : Byte) (s : State) : State :=
  let finish := if (CountAction.read action).isSome then testSender h else testNothing
  closeWindow false (s.hears && s.inDecodeWindow)
    (acceptNotice .count h [action] (countNotice h.epoch action) finish s)

/-- An accepted STANDBY (R143). -/
def acceptStandby (h : Rx) (s : State) : State :=
  closeWindow false (s.hears && s.inDecodeWindow) (acceptNotice .standby h [] standbyNotice (testStandby h) s)

/-- The REPEAT was taken or re-sequenced: its outcome says so and it was acted on (R133). -/
def repeatSettled (known done : State) : Bool :=
  known.actsOnRepeat && (done.grp.lastRepeat == .taken || done.grp.lastRepeat == .resequenced)

/-- The REPEAT was ignored with a slip (R130). -/
def repeatSlipped (known done : State) : Bool :=
  known.actsOnRepeat && done.grp.lastRepeat == .ignored && known.grp.membership.slipsOnIgnored

/-- What follows the effect of a REPEAT: the sender's epoch after it is its field + 1 (R134). One that was taken or
re-sequenced is not tested (R133), though a member's is the first member notice of a listen window (R98); one that was
ignored counts one slip in all (R132). -/
def testRepeater (h : Rx) (known done : State) : State :=
  let x := h.sender.toNat
  if repeatSettled known done then whenever (done.peerIsMember x && done.ctl.st == .run) markListened done
  else adoptionTest x (h.epoch + 1) (repeatSlipped known done) done

/-- An accepted REPEAT (R127). -/
def acceptRepeat (h : Rx) (s : State) : State :=
  closeWindow false (s.hears && s.inDecodeWindow)
    (acceptNotice .rep h [] (repeatEffect h.epoch) (testRepeater h) s)

end Sys2Proof.Machine
end

