-- ==== Sys2Proof/Machine/Port.lean ====
section
/-! DEFINITION. The service port: the codes and the map of R195 as views of State, reads with the snapshot latch (R188, R189), writes with the holding register (R190), flags and masks (R191), and how a command is judged (R192). -/

namespace Sys2Proof.Machine

/-! ### Codes (R195) -/

/-- R195. -/
def StationState.code : StationState → Nat
  | .off => 0 | .boot => 1 | .halted => 2 | .run => 3 | .standby => 4 | .sleep => 5 | .overheat => 6

/-- R195. -/
def Membership.code : Membership → Nat
  | .outside => 0 | .listening => 1 | .joining => 2 | .member => 3 | .listener => 4 | .alone => 5 | .refused => 6
  | .duplicate => 7

/-- R195. -/
def ResetCause.code : ResetCause → Nat
  | .none => 0 | .power => 1 | .pin => 2 | .command => 3

/-- R195. -/
def DepReason.code : DepReason → Nat
  | .sleep => 1 | .supply => 2 | .heat => 3

/-- R195. -/
def SleepCause.code : SleepCause → Nat
  | .none => 0 | .command => 1 | .forced => 2

/-- R195. -/
def WakeCause.code : WakeCause → Nat
  | .none => 0 | .source => 1 | .notice => 2 | .command => 3 | .failsafe => 4

/-- R195. -/
def Lock.code : Lock → Nat
  | .search => 0 | .locking => 1 | .locked => 2 | .silent => 3

/-- R195. -/
def ScanState.code : ScanState → Nat
  | .dark => 0 | .hold => 1 | .wait => 2 | .scan => 3 | .rescan => 4

/-- R195. -/
def Writer.code : Writer → Nat
  | .idle => 0 | .held => 1 | .transfer => 2 | .staged => 3

/-- R195. -/
def Engine.code : Engine → Nat
  | .off => 0 | .waitIdle => 1 | .idle => 2 | .sending => 3 | .receiving => 4 | .wakeSend => 5 | .lost => 6

/-- R195. -/
def Mute.code : Mute → Nat
  | .enabled => 0 | .muted => 1 | .permanent => 2

/-- R195. -/
def RepeatOutcome.code : RepeatOutcome → Nat
  | .none => 0 | .taken => 1 | .resequenced => 2 | .ignored => 3

/-- R195. -/
def MeterResult.code : MeterResult → Nat
  | .none => 0 | .changed => 1 | .kept => 2 | .low => 3 | .wrapped => 4 | .discarded => 5

/-- R195. -/
def Letter.code : Letter → Nat
  | .m => 0 | .l => 1 | .j => 2 | .a => 3 | .r => 4 | .d => 5 | .c => 6

/-- R195. -/
def FreezeCause.code : FreezeCause → Nat
  | .reset => 0 | .localCmd => 1 | .group => 2 | .overflow => 3

/-- R195. -/
def CountOutcome.code : CountOutcome → Nat
  | .none => 0 | .waiting => 1 | .sent => 2 | .completed => 3 | .dropped => 4 | .withdrawn => 5

/-- R195. -/
def Qualifier.code : Qualifier → Nat
  | .plain => 0 | .threshold => 1 | .edge => 2

/-- R195. -/
def OvfAction.code : OvfAction → Nat
  | .none => 0 | .localStop => 1 | .groupStop => 2

/-- R195. -/
def PeerState.code : PeerState → Nat
  | .pending => 1 | .member => 2 | .silent => 3

/-- A bit as a number. -/
def bit (b : Bool) : Nat := if b then 1 else 0

/-- Fields of a byte, each with its lowest bit's place. -/
def packByte (fields : List (Nat × Nat)) : Byte := BitVec.ofNat 8 (fields.foldl (fun v f => v + f.1 * 2 ^ f.2) 0)

/-- A lead-and-flags value: lead in bits 10:0, then SOURCE_LOST, WARM, OVERRUN, OUT_OF_STEP, MARGIN_UP (R195). -/
def leadAndFlags (a : Ann) : Nat :=
  a.lead.toNat + bit a.flags.sourceLost * 2048 + bit a.flags.warm * 4096 + bit a.flags.overrun * 8192 +
    bit a.flags.outOfStep * 16384 + bit a.flags.marginUp * 32768

/-! ### Values the map computes -/

/-- Milliseconds left to the end of a window, rounded up (0x1E, 0x1F). -/
def msLeft (stop : Option Nat) (now : Nat) : Nat :=
  match stop with
  | none => 0
  | some t => (t - now + (ms - 1)) / ms

/-- The SILENT run time in ms, up to 65,535 (R158). -/
def State.silentMs (s : State) : Nat :=
  match s.ctl.silentFrom with
  | none => 0
  | some t => min 65535 ((s.now - t) / ms)

/-- PANEL_EN (R139). -/
def State.panelEn (s : State) : Bool := s.ctl.st == .run || s.ctl.st == .standby || s.ctl.st == .halted

/-- What the panel port carries (R44, R139). -/
inductive PanelMode where
  | undriven | black | highZ | idlePasses | held | scanning
  deriving DecidableEq, Repr

/-- The panel port's mode (R44, R139): in RUN idle passes until the first scan, then the scan or the held picture. -/
def State.panelMode (s : State) : PanelMode :=
  match s.ctl.st with
  | .off => .undriven
  | .boot | .standby => .black
  | .sleep | .overheat => .highZ
  | .halted => .idlePasses
  | .run => if s.scanning then .scanning else if s.scan.lastStart.isSome then .held else .idlePasses

/-- What the configuration port does (R139). -/
inductive ConfigPort where
  | undriven | readsImage | idle
  deriving DecidableEq, Repr

/-- The configuration port by station state (R139): idle in BOOT while the station is held in reset (R138) and after the one
read of the image (R181). -/
def State.configPort (s : State) : ConfigPort :=
  match s.ctl.st with
  | .off => .undriven
  | .boot => if s.ctl.held || s.ldr.imageRead then .idle else .readsImage
  | .halted | .run | .standby | .sleep | .overheat => .idle

/-- The chip-select and clock levels of the configuration port, true being high (R139): none where nothing drives them, or
where the read of the image moves them. -/
def ConfigPort.levels : ConfigPort → Option (Bool × Bool)
  | .undriven | .readsImage => none
  | .idle => some (true, false)

/-- ATTN driven low (R191). -/
def State.attn (s : State) : Bool := s.responding && (s.port.flags &&& s.port.masks) != 0

/-- Which slots of the transmit queue hold a notice (0x0D). -/
def TxQueue.mask (q : TxQueue) : Nat :=
  bit q.rep.isSome + bit q.refuse.isSome * 2 + bit q.leave.isSome * 4 + bit q.join.isSome * 8 +
    bit q.status.isSome * 16 + bit q.wake.isSome * 32 + bit q.standby.isSome * 64 + bit q.count.isSome * 128 +
    bit q.ident.isSome * 256

/-- The refuser byte (0x0A). -/
def refuserByte : Option Refusing → Byte
  | none => 255
  | some r => match r.refuser with
    | .self => 16
    | .station n => n.setWidth 8

/-- The two bytes of a group action record (0x7B to 0x7E). -/
def recordBytes : Option ActionRec → List Byte
  | none => [0, 0]
  | some r =>
    [r.effective, packByte [(1, 0), (match r.freeze with | none => 0 | some true => 1 | some false => 2, 1), (bit r.clear, 3)]]

/-- The record with an effective epoch. -/
def recordAt (e : Epoch) (l : List ActionRec) : Option ActionRec := l.find? (·.effective == e)

/-- The group action list as the map shows it, the nearer effective epoch first (0x7B to 0x7E). -/
def State.recordsShown (s : State) : List Byte :=
  let near := recordAt (s.grp.epoch + 1) s.lag.actions
  let far := recordAt (s.grp.epoch + 2) s.lag.actions
  match near with
  | some r => recordBytes (some r) ++ recordBytes far
  | none => recordBytes far ++ recordBytes none

/-- The settings bytes of a counter (0x66 to 0x6D). -/
def Counter.settings (c : Counter) : List Byte :=
  [packByte [(c.select, 0), (c.qual.code, 5), (bit c.invert, 7)], packByte [(c.threshold, 0), (c.action.code, 6)]]

/-- Bytes 3 to 7 of a peer-table entry: in-use lead and flags, in-use hold, effective epoch of the pending one. -/
def annBytes (inUse : Option Ann) (pend : Option PendAnn) : List Byte :=
  (match inUse with
   | some a => leBytes 2 (leadAndFlags a) ++ leBytes 2 a.hold.toNat
   | none => [0, 0, 0, 0]) ++
  (match pend with
   | some p => [p.effective]
   | none => [0])

/-- A peer's entry (11.4, Peer-table entry). -/
def Peer.bytes (p : Peer) : List Byte :=
  let place := match p.join with
    | some j => [(1, 3), (j.col.toNat, 4), (j.row.toNat, 6)]
    | none => []
  [packByte ((p.state.code, 0) :: place),
   packByte [(p.order.getD 0, 0), (match p.due with | some r => r.code.toNat | none => 0, 4), (bit p.windowEnd.isSome, 6),
     (bit p.inUse.isSome, 7)],
   packByte [(p.heard, 0), (bit p.pend.isSome, 7)]] ++ annBytes p.inUse p.pend

/-- The station's own place in the table (11.4). -/
def State.ownEntryBytes (s : State) : List Byte :=
  [packByte [(4, 0), (1, 3), (s.cfg.col.toNat, 4), (s.cfg.row.toNat, 6)], packByte [(bit s.grp.ownInUse.isSome, 7)],
   packByte [(bit s.grp.ownPend.isSome, 7)]] ++ annBytes s.grp.ownInUse s.grp.ownPend

/-- The entry of number `n` (0x80 + 8 n). -/
def State.entryBytes (s : State) (n : Nat) : List Byte :=
  if n = s.own then s.ownEntryBytes
  else match s.peer n with
    | some p => p.bytes
    | none => List.replicate 8 0

/-- The entries of `k` numbers from `n` on. -/
def State.tableBytes (s : State) (n : Nat) : Nat → List Byte
  | 0 => []
  | k + 1 => s.entryBytes n ++ s.tableBytes (n + 1) k

/-! ### The map (R195) -/

/-- 0x00 to 0x0C. Each bit shows its item as State holds it, in every station state (DESIGN CHOICE, log 48). -/
def State.bytes00 (s : State) : List Byte :=
  [0x76, 0x01, packByte [(s.own, 0), (s.cfg.col.toNat, 4), (s.cfg.row.toNat, 6)],
   packByte [(s.ctl.resetCause.code, 0), (s.ctl.st.code, 2),
     (match s.ctl.departure with | some d => d.reason.code | none => 0, 5), (bit s.ctl.standbyPending, 7)],
   packByte [(s.grp.membership.code, 0), (bit s.grp.dupLatch, 3), (bit s.ctl.forcedListen, 4), (bit s.wakeListening, 5),
     (s.ctl.sleepCause.code, 6)],
   packByte [(s.ctl.wakeCause.code, 0), (s.ctl.sleepFails, 3), (bit s.ctl.warm, 6), (bit s.ctl.senseLow, 7)],
   BitVec.ofNat 8 (s.ctl.temp + 40).toNat,
   packByte [(s.src.lock.code, 0), (bit s.src.gateOpen, 2), (bit s.src.variableCadence, 3), (s.scan.st.code, 4),
     (bit s.lq.overrun, 7)],
   packByte [(s.lq.writer.code, 0), (s.bus.engine.code, 2), (s.bus.mute.code, 5), (bit s.bus.holdoff.isSome, 7)],
   s.bus.muteCount, refuserByte s.grp.refusal,
   packByte [(match s.grp.refusal with | some r => r.reason.toNat | none => 0, 0), (s.grp.lastRepeat.code, 2),
     (bit s.grp.outOfStep, 4)],
   BitVec.ofNat 8 s.grp.cleanEpochs]

/-- 0x0D to 0x1F. At 0x0F digit and letter read 0 while no pair is latched (DESIGN CHOICE, log 40). -/
def State.bytes0D (s : State) : List Byte :=
  leBytes 2 s.bus.q.mask ++
    [packByte [(match s.ovl.latched with | some (d, _) => d.toNat | none => 0, 0),
       (match s.ovl.latched with | some (_, x) => x.code | none => 0, 4), (bit s.ovl.drawn, 7)]] ++
    leBytes 2 s.port.flags.toNat ++ leBytes 2 s.port.masks.toNat ++
    [s.port.arg, 0x00, packByte [(bit s.port.cmdRefused, 0), (s.port.lastCmd.toNat, 4)],
     BitVec.ofNat 8 s.lq.occupancy] ++
    leBytes 2 s.mem.staleCount ++ leBytes 2 s.identifyTimer ++ leBytes 2 s.silentMs ++
    [BitVec.ofNat 8 (msLeft s.grp.listenEnd s.now), BitVec.ofNat 8 (msLeft s.grp.ownWindowEnd s.now)]

/-- 0x20 to 0x3F. -/
def State.bytes20 (s : State) : List Byte :=
  [s.grp.epoch,
   packByte [(bit s.scan.shown.isSome, 0), (bit s.scan.waiting.isSome, 1),
     (match s.scan.waiting with | some w => bit w.ended | none => 0, 2), (bit s.grp.admMark.isSome, 3),
     (bit s.grp.ownInUse.isSome, 4), (bit s.grp.ownPend.isSome, 5)]] ++
    leBytes 2 s.grp.groupLead ++ leBytes 2 s.grp.groupHold ++ leBytes 2 s.scan.ownLead ++ leBytes 2 s.leadInUse ++
    leBytes 2 s.scan.holdInUse ++ [BitVec.ofNat 8 s.scan.margin, BitVec.ofNat 8 s.scan.cleanRun] ++
    leBytes 2 (match s.scan.shown with | some x => x.toNat | none => 0) ++
    leBytes 2 (match s.scan.waiting with | some w => w.serial.toNat | none => 0) ++
    leBytes 2 (match s.grp.admMark with | some x => x.toNat | none => 0) ++
    leBytes 3 s.scan.lastLag.toNat ++
    leBytes 2 (s.src.inUse.getD 0 + s.src.result.code * 8192) ++ leBytes 2 (s.src.raster.getD 4095) ++
    leBytes 2 s.src.width ++ leBytes 2 s.src.height ++ [s.src.lastTag]

/-- 0x40 to 0x6F. -/
def State.bytes40 (s : State) : List Byte :=
  leBytes 5 s.lag.c0.value.toNat ++ leBytes 5 s.lag.c1.value.toNat ++ leBytes 5 s.lag.c2.value.toNat ++
    leBytes 5 s.lag.c3.value.toNat ++ leBytes 5 s.lag.frames.toNat ++ leBytes 5 s.lag.repeats.toNat ++
    leBytes 5 s.lag.lagSum.toNat ++ leBytes 3 s.lag.lagMax.toNat ++ s.lag.c0.settings ++ s.lag.c1.settings ++
    s.lag.c2.settings ++ s.lag.c3.settings ++
    [s.lag.ovf.setWidth 8, packByte [(bit s.lag.frozen, 0), (s.lag.cause.code, 1), (s.lag.outcome.code, 3)]]

/-- The image byte at the index (R194). -/
def State.imageAtIndex (s : State) : Byte := BitVec.ofNat 8 (imageByte s.ldr.image s.port.imageIdx.toNat)

/-- 0x70 to 0x7F. -/
def State.bytes70 (s : State) : List Byte :=
  [BitVec.ofNat 8 s.ldr.fault.code, s.ctl.station.setWidth 8, packByte [(s.ldr.applied, 0), (s.ldr.ignored, 4)],
   s.port.imageIdx.setWidth 8, s.imageAtIndex] ++
    leBytes 2 s.src.skips.toNat ++
    (match s.grp.ownPend with
     | some p => leBytes 2 (leadAndFlags p.ann) ++ leBytes 2 p.ann.hold.toNat
     | none => [0, 0, 0, 0]) ++
    s.recordsShown ++ [0x00]

/-- The 256 locations as they read live (R195). -/
def State.portBytes (s : State) : List Byte :=
  s.bytes00 ++ s.bytes0D ++ s.bytes20 ++ s.bytes40 ++ s.bytes70 ++ s.tableBytes 0 16

/-- The byte at a location, read live. -/
def State.liveByte (s : State) (a : Nat) : Byte := (s.portBytes[a]?).getD 0

/-! ### Reads (R188, R189, R194) -/

/-- The multi-byte values of R189 by their first address and length, below the peer table. -/
def multiByteValues : List (Nat × Nat) :=
  [(0x0D, 2), (0x18, 2), (0x1A, 2), (0x1C, 2), (0x22, 2), (0x24, 2), (0x26, 2), (0x28, 2), (0x2A, 2), (0x2E, 2)] ++
  [(0x30, 2), (0x32, 2), (0x34, 3), (0x37, 2), (0x39, 2), (0x3B, 2), (0x3D, 2), (0x40, 5), (0x45, 5), (0x4A, 5)] ++
  [(0x4F, 5), (0x54, 5), (0x59, 5), (0x5E, 5), (0x63, 3), (0x75, 2), (0x77, 2), (0x79, 2), (0x7B, 2), (0x7D, 2)]

/-- The multi-byte value a location belongs to, if it belongs to one (R189). -/
def valueOf (a : Nat) : Option (Nat × Nat) :=
  if 0x80 ≤ a then some (a / 8 * 8, 8)
  else multiByteValues.find? fun v => decide (v.1 ≤ a) && decide (a < v.1 + v.2)

/-- A read returned a byte; the pointer moves on (R188). -/
def returned (a : Byte) (b : Byte) (s : State) : State :=
  s.modPort fun p => { p with readData := b, ptr := a + 1 }

/-- A read of a location (R188, R189): the first byte of a multi-byte value latches it, a later byte of the latched value
returns the latched byte, any other byte is live. -/
def readLocation (a : Byte) (s : State) : State :=
  match valueOf a.toNat with
  | none => returned a (s.liveByte a.toNat) s
  | some (base, len) =>
    if a.toNat = base then
      let bytes := (s.portBytes.drop base).take len
      returned a (bytes.head?.getD 0) (s.modPort fun p => { p with latch := some { base := base, bytes := bytes } })
    else
      match s.port.latch with
      | some h =>
        if h.base = base then returned a ((h.bytes[a.toNat - base]?).getD 0) s
        else returned a (s.liveByte a.toNat) s
      | none => returned a (s.liveByte a.toNat) s

/-- A read of 0x74 (R194): the pointer stays and the index rises, 63 wrapping to 0. -/
def readImageByte (s : State) : State :=
  s.modPort fun p => { p with readData := s.imageAtIndex, ptr := 0x74, imageIdx := p.imageIdx + 1 }

/-- A byte is read at the pointer (R188). -/
def readHere (s : State) : State := if s.port.ptr = 0x74 then readImageByte s else readLocation s.port.ptr s

/-! ### Writes (R190, R191, R173) -/

/-- The counters of 0x40 to 0x65 by their first address (R195). -/
def counterBase (a : Nat) : Option (Nat × Nat) :=
  if 0x40 ≤ a ∧ a ≤ 0x65 then valueOf a else none

/-- A counter or LAG_MAX takes a value (R173). -/
def setCounterValue (base : Nat) (v : Nat) (s : State) : State :=
  s.modLag fun l =>
    match base with
    | 0x40 => { l with c0 := { l.c0 with value := BitVec.ofNat 40 v } }
    | 0x45 => { l with c1 := { l.c1 with value := BitVec.ofNat 40 v } }
    | 0x4A => { l with c2 := { l.c2 with value := BitVec.ofNat 40 v } }
    | 0x4F => { l with c3 := { l.c3 with value := BitVec.ofNat 40 v } }
    | 0x54 => { l with frames := BitVec.ofNat 40 v }
    | 0x59 => { l with repeats := BitVec.ofNat 40 v }
    | 0x5E => { l with lagSum := BitVec.ofNat 40 v }
    | _ => { l with lagMax := BitVec.ofNat 24 v }

/-- The holding register before a byte of the value at `base` is written (R190): loaded with the counter's present value at
its lowest byte, or when it does not hold that value. -/
def State.heldBytes (s : State) (a base len : Nat) : List Byte :=
  match s.port.holding with
  | some h => if h.base = base ∧ a ≠ base then h.bytes else (s.portBytes.drop base).take len
  | none => (s.portBytes.drop base).take len

/-- A write of one byte of a counter value (R190): the highest byte transfers the register into the counter. -/
def writeCounterByte (a base len : Nat) (b : Byte) (s : State) : State :=
  let bytes := (s.heldBytes a base len).set (a - base) b
  if a + 1 = base + len then
    (setCounterValue base (leNat bytes) s).modPort fun p => { p with holding := none }
  else s.modPort fun p => { p with holding := some { base := base, bytes := bytes } }

/-- The first settings byte (R173, R195): event select, qualifier, invert; the edge memory becomes "not met". -/
def Counter.setFirst (c : Counter) (b : Byte) : Counter :=
  { c with
    select := if (b.extractLsb' 0 5).toNat ≤ 16 then (b.extractLsb' 0 5).toNat else 0
    qual := match (b.extractLsb' 5 2).toNat with | 1 => .threshold | 2 => .edge | _ => .plain
    invert := b.getLsbD 7
    met := false }

/-- The second settings byte (R173, R195): threshold, overflow action; the edge memory becomes "not met". -/
def Counter.setSecond (c : Counter) (b : Byte) : Counter :=
  { c with
    threshold := min 48 (b.extractLsb' 0 6).toNat
    action := match (b.extractLsb' 6 2).toNat with | 1 => .localStop | 2 => .groupStop | _ => .none
    met := false }

/-- A write of one settings byte (R173). -/
def writeSetting (a : Nat) (b : Byte) (s : State) : State :=
  s.modLag fun l =>
    match a with
    | 0x66 => { l with c0 := l.c0.setFirst b }
    | 0x67 => { l with c0 := l.c0.setSecond b }
    | 0x68 => { l with c1 := l.c1.setFirst b }
    | 0x69 => { l with c1 := l.c1.setSecond b }
    | 0x6A => { l with c2 := l.c2.setFirst b }
    | 0x6B => { l with c2 := l.c2.setSecond b }
    | 0x6C => { l with c3 := l.c3.setFirst b }
    | 0x6D => { l with c3 := l.c3.setSecond b }
    | _ => l

/-- The eleven flag bits that a byte written at 0x10 (low) or 0x11 (high) names (R191, R195). -/
def flagBits (high : Bool) (b : Byte) : BitVec 11 := if high then (b.extractLsb' 0 3) ++ 0#8 else b.setWidth 11

/-- A write of a flag byte (R191): 1 clears, 0 leaves. -/
def writeFlags (high : Bool) (b : Byte) (s : State) : State :=
  s.modPort fun p => { p with flags := p.flags &&& ~~~(flagBits high b) }

/-- A write of a mask byte (R191). -/
def writeMasks (high : Bool) (b : Byte) (s : State) : State :=
  s.modPort fun p => { p with masks := (p.masks &&& ~~~(flagBits high 0xFF#8)) ||| flagBits high b }

/-- The image index (R194), modulo 64. -/
def writeImageIndex (b : Byte) (s : State) : State := s.modPort fun p => { p with imageIdx := b.setWidth 6 }

/-- Whether a location takes a write (R190, R195). -/
def writable (a : Nat) : Bool :=
  (decide (0x10 ≤ a) && decide (a ≤ 0x16)) || (decide (0x40 ≤ a) && decide (a ≤ 0x6E)) || a == 0x73

/-- A write to any byte of another value discards what the holding register held (R190). -/
def dropHolding (a : Nat) (s : State) : State :=
  s.modPort fun p =>
    { p with holding := match p.holding with
        | some h => if writable a && (counterBase a).map (·.1) != some h.base then none else some h
        | none => none }

/-- A write of a byte to a location other than the command byte (R188, R190). -/
def writeLocation (a : Nat) (b : Byte) (s : State) : State :=
  let s := dropHolding a s
  match a with
  | 0x10 => writeFlags false b s
  | 0x11 => writeFlags true b s
  | 0x12 => writeMasks false b s
  | 0x13 => writeMasks true b s
  | 0x14 => s.modPort fun p => { p with arg := b }
  | 0x16 => whenever (b.getLsbD 0) (fun s => s.modPort fun p => { p with cmdRefused := false }) s
  | 0x6E => s.modLag fun l => { l with ovf := l.ovf &&& ~~~(b.setWidth 7) }
  | 0x73 => writeImageIndex b s
  | a =>
    match counterBase a with
    | some (base, len) => writeCounterByte a base len b s
    | none => writeSetting a b s

/-- The pointer is set (R188). -/
def setPointer (a : Byte) (s : State) : State := s.modPort fun p => { p with ptr := a }

/-- A byte is written at the pointer, a location other than the command byte, and the pointer rises (R188). -/
def writeHere (b : Byte) (s : State) : State := setPointer (s.port.ptr + 1) (writeLocation s.port.ptr.toNat b s)

/-- A write transaction sets the pointer with its first byte, if it has one (R188). -/
def pointAt (a : Option Byte) (s : State) : State :=
  match a with
  | some a => setPointer a s
  | none => s

/-- The pointer and a byte after it, in one write transaction; nothing happens where the port does not respond (R188). -/
def writeAt (a b : Byte) (s : State) : State := whenever s.responding (fun s => writeHere b (setPointer a s)) s

/-! ### Commands (R192) -/

/-- A command is judged (R192): refused, it sets CMD_REFUSED and does nothing else; taken, its code is recorded, the
forced-listen latch cleared, and its effect follows. -/
def runCommand (code : BitVec 4) (allowed : State → Bool) (effect : State → State) (s : State) : State :=
  whenever s.responding (fun s =>
    let s := setPointer 0x16 (dropHolding 0x15 s)
    if allowed s then
      effect (clearForcedListen (s.modPort fun p => { p with lastCmd := code }))
    else s.modPort fun p => { p with cmdRefused := true }) s

end Sys2Proof.Machine
end

