-- ==== Sys2Proof/Machine/Commands.lean ====
section
/-! DEFINITION. Meanings of the service commands (R192, R193): each is the write of its code to 0x15, its argument being the byte at 0x14. -/

namespace Sys2Proof.Machine

/-- RUN or STANDBY. -/
def State.awake (s : State) : Bool := s.ctl.st == .run || s.ctl.st == .standby

/-- RUN or STANDBY with no departure pending. -/
def State.awakeFree (s : State) : Bool := s.awake && s.ctl.departure.isNone

/-- SLEEP (R146). -/
def cmdSleep (s : State) : State := runCommand 1 State.awakeFree (beginDeparture .sleep) s

/-- The argument of WAKE is in range (R152). -/
def wakeArgOk (arg : Byte) : Bool := decide (arg.toNat ≤ 16)

/-- The mask a WAKE argument selects (R152). -/
def wakeMask (arg : Byte) : BitVec 16 := if arg = 0 then 0xFFFF#16 else BitVec.twoPow 16 (arg.toNat - 1)

/-- WAKE by station state (R152). -/
def wakeCommand (s : State) : State :=
  let mask := wakeMask s.port.arg
  match s.ctl.st with
  | .sleep => wakeFromSleep .command s
  | .standby => whenever (mask.getLsbD s.own) (wakeFromStandby .command) (queueWake mask s)
  | _ => queueWake mask s

/-- WAKE (R152). -/
def cmdWake (s : State) : State :=
  runCommand 2 (fun s => wakeArgOk s.port.arg && (s.ctl.st == .sleep || s.awakeFree)) wakeCommand s

/-- REJOIN by membership state (R109). -/
def rejoin (s : State) : State :=
  match s.grp.membership with
  | .listening => startListening s
  | .member | .joining => setMembership .listening (queueLeave 4 s)
  | _ => setMembership .listening s

/-- The membership states that take REJOIN (R109). -/
def Membership.takesRejoin : Membership → Bool
  | .refused | .member | .joining | .listening => true
  | _ => false

/-- REJOIN (R109). -/
def cmdRejoin (s : State) : State :=
  runCommand 3 (fun s => s.grp.membership.takesRejoin && s.ctl.departure.isNone) rejoin s

/-- IDENTIFY with its argument (R165). -/
def identify (s : State) : State :=
  let n := s.port.arg
  if n = 0 then withdraw .ident (startIdentify 0 s) else queueNotice .ident [n] none (startIdentify n.toNat s)

/-- IDENTIFY (R165). -/
def cmdIdentify (s : State) : State :=
  runCommand 4 (fun s => s.awake && decide (s.port.arg.toNat ≤ 60)) identify s

/-- FREEZE (R174). -/
def cmdFreeze (s : State) : State := runCommand 5 (fun _ => true) (setFrozen true .localCmd) s

/-- THAW (R174). -/
def cmdThaw (s : State) : State := runCommand 6 (fun _ => true) (setFrozen false .localCmd) s

/-- CLEAR (R174). -/
def cmdClear (s : State) : State := runCommand 7 (fun _ => true) clearCounters s

/-- The states that take the group commands (R175). -/
def State.takesGroup (s : State) : Bool := s.awake && s.grp.membership == .member

/-- GROUP_FREEZE (R175). -/
def cmdGroupFreeze (s : State) : State := runCommand 8 State.takesGroup (queueCount .freeze) s

/-- GROUP_THAW (R175). -/
def cmdGroupThaw (s : State) : State := runCommand 9 State.takesGroup (queueCount .thaw) s

/-- GROUP_CLEAR (R175). -/
def cmdGroupClear (s : State) : State := runCommand 10 State.takesGroup (queueCount .clear) s

/-- What CLEAR_FAULT sets to 0 or NONE (R194). -/
def clearFault (s : State) : State :=
  let counts := (s.modSrc fun r => { r with skips := 0 }).modBus fun b => { b with muteCount := 0 }
  counts.modCtl fun c => { c with resetCause := .none, sleepCause := .none, wakeCause := .none }

/-- CLEAR_FAULT (R194). -/
def cmdClearFault (s : State) : State := runCommand 11 (fun _ => true) clearFault s

/-- RESET (R138, R193). -/
def cmdReset (straps : StationNo) (s : State) : State := runCommand 12 (fun _ => true) (beginBoot .command straps) s

/-- A code outside the table (R192, R193). -/
def cmdUnknown (s : State) : State := runCommand 0 (fun _ => false) id s

/-- The write of a code to 0x15 (R192, R193); a RESET so written reads the straps as last reported (log 24). -/
def commandByCode (code : Byte) (s : State) : State :=
  match code.toNat with
  | 1 => cmdSleep s
  | 2 => cmdWake s
  | 3 => cmdRejoin s
  | 4 => cmdIdentify s
  | 5 => cmdFreeze s
  | 6 => cmdThaw s
  | 7 => cmdClear s
  | 8 => cmdGroupFreeze s
  | 9 => cmdGroupThaw s
  | 10 => cmdGroupClear s
  | 11 => cmdClearFault s
  | 12 => cmdReset s.ctl.strapPins s
  | _ => cmdUnknown s

/-- SLEEP (R146). -/
def execSleep (t : Nat) (s : State) : Answer := act t cmdSleep s

/-- WAKE (R152). -/
def execWake (t : Nat) (s : State) : Answer := act t cmdWake s

/-- REJOIN (R109). -/
def execRejoin (t : Nat) (s : State) : Answer := act t cmdRejoin s

/-- IDENTIFY (R165). -/
def execIdentify (t : Nat) (s : State) : Answer := act t cmdIdentify s

/-- FREEZE (R174). -/
def execFreeze (t : Nat) (s : State) : Answer := act t cmdFreeze s

/-- THAW (R174). -/
def execThaw (t : Nat) (s : State) : Answer := act t cmdThaw s

/-- CLEAR (R174). -/
def execClear (t : Nat) (s : State) : Answer := act t cmdClear s

/-- GROUP_FREEZE (R175). -/
def execGroupFreeze (t : Nat) (s : State) : Answer := act t cmdGroupFreeze s

/-- GROUP_THAW (R175). -/
def execGroupThaw (t : Nat) (s : State) : Answer := act t cmdGroupThaw s

/-- GROUP_CLEAR (R175). -/
def execGroupClear (t : Nat) (s : State) : Answer := act t cmdGroupClear s

/-- CLEAR_FAULT (R194). -/
def execClearFault (t : Nat) (s : State) : Answer := act t cmdClearFault s

/-- RESET (R138, R193). -/
def execReset (t : Nat) (straps : StationNo) (s : State) : Answer := act t (cmdReset straps) s

/-- UNKNOWN_COMMAND (R192): the code is outside the table of R193. -/
def execUnknownCommand (t : Nat) (code : Byte) (s : State) : Answer :=
  act t (fun s => whenever (code == 0 || decide (12 < code.toNat)) cmdUnknown s) s

end Sys2Proof.Machine
end

