-- ==== Sys2Proof/Machine/Controller.lean ====
section
/-! DEFINITION. Meanings of the commands about supplies, resets, BOOT, departures, standby, the sleep wake path, the panel supply, the temperature and the identify timer. -/

namespace Sys2Proof.Machine

/-- POWER_LOSS (R138). -/
def execPowerLoss (t : Nat) (s : State) : Answer := act t supplyOff s

/-- BOOT with cause POWER, or the wait in reset where RESETn is low (R138, R194). -/
def powerUp (straps : StationNo) (s : State) : State :=
  if s.ctl.resetLow then holdInReset s else beginBoot .power straps s

/-- POWER_GOOD (R138, R180, R194). -/
def execPowerGood (t : Nat) (straps : StationNo) (s : State) : Answer :=
  act t (fun s => whenever (s.ctl.st == .off) (powerUp straps) s) s

/-- RESET_PIN_ASSERT (R138): in OFF only the pin's level is noted (log 5). -/
def execResetPinAssert (t : Nat) (s : State) : Answer :=
  act t (fun s => if s.ctl.st = .off then s.modCtl fun c => { c with resetLow := true } else holdInReset s) s

/-- RESETn rises (R138): a held station begins BOOT. -/
def releasePin (straps : StationNo) (s : State) : State :=
  let high := s.modCtl fun c => { c with resetLow := false }
  if s.ctl.held then beginBoot .pin straps high else high

/-- RESET_PIN_RELEASE (R138, R180). -/
def execResetPinRelease (t : Nat) (straps : StationNo) (s : State) : Answer :=
  act t (fun s => whenever s.ctl.resetLow (releasePin straps) s) s

/-- CONFIG_READ (R181 to R185): the one read of this BOOT. -/
def execConfigRead (t : Nat) (image : List Byte) (s : State) : Answer :=
  act t (fun s => whenever (s.ctl.st == .boot && !s.ctl.held && !s.ldr.imageRead) (takeImage image) s) s

/-- BOOT_END (R180, R186, R187, R94, R166). -/
def execBootEnd (t : Nat) (s : State) : Answer := act t (fun s => whenever s.bootOver finishBoot s) s

/-- DEPARTURE_ENTRY (R141, R147, R156). -/
def execDepartureEntry (t : Nat) (s : State) : Answer := act t departureStep s

/-- SILENT_RUN_TIME_REACHED (R142): the standing judgement of the standby condition, made after every command, is this one
at this moment. -/
def execSilentRunTimeReached (t : Nat) (s : State) : Answer := act t id s

/-- SOURCE_ACTIVITY (R145). -/
def execSourceActivity (t : Nat) (s : State) : Answer := act t (fun s => whenever s.freeStandby sourceWakes s) s

/-- The detector waits for a pattern. -/
def State.detecting (s : State) : Bool := s.ctl.st == .sleep && s.ctl.det == .waiting

/-- Moves the detector. -/
def setDetector (d : Detector) (s : State) : State := s.modCtl fun c => { c with det := d }

/-- A pattern is judged (R148): accepted, it powers the full receiver; out of range, the detector goes on waiting. -/
def judgePattern (r1 r2 r3 : Nat) (s : State) : State :=
  if patternOk r1 r2 r3 ∧ r1 + r2 + r3 ≤ 1 * ms then setDetector (.powering s.now) s else setDetector .waiting s

/-- WAKE_PATTERN_ACCEPTED (R148). -/
def execWakePatternAccepted (t : Nat) (r1 r2 r3 : Nat) (s : State) : Answer :=
  act t (fun s => whenever s.detecting (judgePattern r1 r2 r3) s) s

/-- WAKE_PATTERN_REJECTED (R148). -/
def execWakePatternRejected (t : Nat) (s : State) : Answer :=
  act t (fun s => whenever s.detecting (setDetector .waiting) s) s

/-- WAKE_PATTERN_TIMEOUT (R148). -/
def execWakePatternTimeout (t : Nat) (s : State) : Answer :=
  act t (fun s => if s.detecting then setDetector .waiting s else s) s

/-- The full receiver has had its 200 µs (R148). -/
def State.receiverDue (s : State) : Bool :=
  s.ctl.st == .sleep &&
    (match s.ctl.det with | .powering a => decide (a + 200 * us ≤ s.now) | _ => false)

/-- The full receiver is up and the decode window starts (R148). -/
def openWindow (s : State) : State := setDetector (.window s.now) (receiverOn s)

/-- FULL_RECEIVER_UP (R148). -/
def execFullReceiverUp (t : Nat) (s : State) : Answer := act t (fun s => whenever s.receiverDue openWindow s) s

/-- The decode window has lasted 2 ms (R149). -/
def State.windowDue (s : State) : Bool :=
  s.ctl.st == .sleep &&
    (match s.ctl.det with | .window a => decide (a + 2 * ms ≤ s.now) | _ => false)

/-- DECODE_WINDOW_EXPIRY (R149). -/
def execDecodeWindowExpiry (t : Nat) (s : State) : Answer := act t (fun s => whenever s.windowDue backToDetector s) s

/-- SUPPLY_SENSE_CHANGE (R153). -/
def execSupplySenseChange (t : Nat) (low : Bool) (s : State) : Answer := act t (takeSense low) s

/-- SUPPLY_LOW_TIMER_EXPIRY (R141, R153). -/
def execSupplyLowTimerExpiry (t : Nat) (s : State) : Answer :=
  act t (fun s => whenever s.supplyDue (beginDeparture .supply) s) s

/-- The monitor takes readings (R155): in every state but OFF, unless the station is held in reset. -/
def State.monitorRuns (s : State) : Bool := s.ctl.st != .off && !s.ctl.held

/-- TEMPERATURE_READING (R141, R155 to R157). -/
def execTemperatureReading (t : Nat) (d : Int) (s : State) : Answer :=
  act t (fun s => whenever s.monitorRuns (takeReading d) s) s

/-- The identify timer has reached 0 (R163). -/
def State.identifyDue (s : State) : Bool := s.ovl.identifyUntil != 0 && decide (s.ovl.identifyUntil ≤ s.now)

/-- IDENTIFY_TIMER_EXPIRY (R163). -/
def execIdentifyTimerExpiry (t : Nat) (s : State) : Answer :=
  act t (fun s => whenever s.identifyDue (startIdentify 0) s) s

end Sys2Proof.Machine
end

