-- ==== Sys2Proof/Machine/Heard.lean ====
section
/-! DEFINITION. Meanings of the nine accepted notices. -/

namespace Sys2Proof.Machine

/-- REPEAT_RECEIVED (R127 to R130). -/
def execRepeatReceived (t : Nat) (h : Rx) (s : State) : Answer := act t (acceptRepeat h) s

/-- REFUSE_RECEIVED (R106, R107, R197). -/
def execRefuseReceived (t : Nat) (h : Rx) (payload : Byte) (s : State) : Answer :=
  act t (acceptPlain .refuse h [payload] false (refuseEffect h.sender (refuseTarget payload) (refuseReason payload))) s

/-- LEAVE_RECEIVED (R107, R108, R197). -/
def execLeaveReceived (t : Nat) (h : Rx) (reason : Byte) (s : State) : Answer :=
  act t (acceptPlain .leave h [reason] false (leaveEffect h.sender.toNat)) s

/-- JOIN_RECEIVED (R96, R97, R99 to R101). -/
def execJoinReceived (t : Nat) (h : Rx) (payload : BitVec 56) (s : State) : Answer :=
  act t (acceptPlain .join h (beBytes 7 payload.toNat) false (joinEffect h.sender.toNat (JoinRec.decode payload))) s

/-- STATUS_RECEIVED (R96, R122). -/
def execStatusReceived (t : Nat) (h : Rx) (payload : BitVec 32) (s : State) : Answer :=
  act t (acceptPlain .status h (beBytes 4 payload.toNat) false
    (statusEffect h.sender.toNat h.epoch (Ann.decode payload))) s

/-- WAKE_RECEIVED (R145, R149). -/
def execWakeReceived (t : Nat) (h : Rx) (mask : BitVec 16) (s : State) : Answer :=
  act t (acceptPlain .wake h (beBytes 2 mask.toNat) (mask.getLsbD s.own) (wakeEffect mask)) s

/-- STANDBY_RECEIVED (R143). -/
def execStandbyReceived (t : Nat) (h : Rx) (s : State) : Answer := act t (acceptStandby h) s

/-- COUNT_RECEIVED (R176, R177, R197). -/
def execCountReceived (t : Nat) (h : Rx) (action : Byte) (s : State) : Answer :=
  act t (acceptCount h action) s

/-- IDENT_RECEIVED (R164). -/
def execIdentReceived (t : Nat) (h : Rx) (seconds : Byte) (s : State) : Answer :=
  act t (acceptPlain .ident h [seconds] false (identEffect seconds)) s

end Sys2Proof.Machine
end

