-- ==== Sys2Proof/Machine/PanelScan.lean ====
section
/-! DEFINITION. Meanings of the scan engine's, the strobe's and the repeat deadlines' commands. -/

namespace Sys2Proof.Machine

/-- An idle pass can start (R44): in HALTED, or in RUN before the first scan, once the pass before has ended. -/
def State.idlePassDue (s : State) : Bool :=
  (s.ctl.st == .halted || (s.ctl.st == .run && s.scan.lastStart.isNone)) &&
    (s.scan.idlePass.isNone || passed s.scan.idlePass (s.cfg.profile.h * s.scan.active.period) s.now)

/-- An idle-pass start (R44, R65, R66, R162). -/
def startIdlePass (s : State) : State :=
  latchOverlay (s.modScan fun c => { startTiming s.now c with idlePass := some s.now })

/-- IDLE_PASS_START (R44). -/
def execIdlePassStart (t : Nat) (s : State) : Answer := act t (fun s => whenever s.idlePassDue startIdlePass s) s

/-- NEW_FRAME_SCAN_START (R50, R53, R67). -/
def execNewFrameScanStart (t : Nat) (s : State) : Answer := act t (newFrameIfDue true) s

/-- REPEAT_SCAN_START of an owed repeat (R63, R64). -/
def execRepeatScanStart (t : Nat) (s : State) : Answer := act t owedIfDue s

/-- SCAN_ROW_READ (R37, R39, R46, R54, R161). -/
def execScanRowRead (t : Nat) (s : State) : Answer := act t (fun s => whenever s.rowDue readRow s) s

/-- The end of a scan, and the STANDBY entry that waits for it (R47, R143). -/
def scanEnds (s : State) : State :=
  let ended := endScan s
  whenever ended.ctl.standbyPending enterStandby ended

/-- SCAN_END (R46, R47, R56, R57, R143). -/
def execScanEnd (t : Nat) (s : State) : Answer := act t (fun s => whenever s.scanOver scanEnds s) s

/-- The minimum frame period has passed and is not yet judged (R52). -/
def State.periodDue (s : State) : Bool :=
  s.ctl.st == .run && s.judged.period && !s.scanning && s.scan.lastStart.isSome && s.periodPassed

/-- MIN_PERIOD_EXPIRY (R52, R63). -/
def execMinPeriodExpiry (t : Nat) (s : State) : Answer := act t (fun s => whenever s.periodDue periodPasses s) s

/-- The pulse begins (R66). -/
def pulseBegins (s : State) : State :=
  match s.scan.strobe with
  | .scheduled a =>
    if a ≤ s.now then s.modScan fun c => { c with strobe := .on (a + c.active.strobe * us) } else s
  | _ => s

/-- STROBE_PULSE_START (R66). -/
def execStrobePulseStart (t : Nat) (s : State) : Answer := act t pulseBegins s

/-- The pulse ends (R66). -/
def pulseEnds (s : State) : State :=
  match s.scan.strobe with
  | .on a => if a ≤ s.now then s.modScan fun c => { c with strobe := .off } else s
  | _ => s

/-- STROBE_PULSE_END (R66). -/
def execStrobePulseEnd (t : Nat) (s : State) : Answer := act t pulseEnds s

/-- REPEAT_DEADLINE (R59, R60). -/
def execRepeatDeadline (t : Nat) (s : State) : Answer := act t (fun s => whenever s.repeatDue queueRepeat s) s

/-- GROUP_OF_ONE_REPEAT (R59, R61). -/
def execGroupOfOneRepeat (t : Nat) (s : State) : Answer := act t (fun s => whenever s.groupOfOneDue repeatAlone s) s

/-- PRIVATE_REPEAT (R59, R62). -/
def execPrivateRepeat (t : Nat) (s : State) : Answer := act t (fun s => whenever s.privateDue repeatPrivately s) s

end Sys2Proof.Machine
end

