-- ==== Sys2Proof/Machine/ServicePort.lean ====
section
/-! DEFINITION. Meanings of the service port's reads and writes. -/

namespace Sys2Proof.Machine

/-- IMAGE_BYTE_READ (R188, R194): the pointer is set to 0x74 and a byte read there. -/
def execImageByteRead (t : Nat) (s : State) : Answer :=
  act t (fun s => whenever s.responding (fun s => readHere (setPointer 0x74 s)) s) s

/-- IMAGE_INDEX_WRITE (R190, R194). -/
def execImageIndexWrite (t : Nat) (b : Byte) (s : State) : Answer := act t (writeAt 0x73 b) s

/-- SNAPSHOT_LATCH_READ (R188, R189). -/
def execSnapshotLatchRead (t : Nat) (addr : Option Byte) (s : State) : Answer :=
  act t (fun s => whenever s.responding (fun s => readHere (pointAt addr s)) s) s

/-- FLAG_CLEAR_WRITE (R191). -/
def execFlagClearWrite (t : Nat) (high : Bool) (b : Byte) (s : State) : Answer :=
  act t (writeAt (if high then 0x11 else 0x10) b) s

/-- MASK_WRITE (R191). -/
def execMaskWrite (t : Nat) (high : Bool) (b : Byte) (s : State) : Answer :=
  act t (writeAt (if high then 0x13 else 0x12) b) s

/-- An address in a range. -/
def addressIn (lo hi : Nat) (a : Byte) : Bool := decide (lo ≤ a.toNat) && decide (a.toNat ≤ hi)

/-- The write of a byte to a location of the range `lo` to `hi`: at `addr`, or at the pointer (R188). -/
def writeWithin (lo hi : Nat) (addr : Option Byte) (b : Byte) (s : State) : State :=
  whenever (s.responding && addressIn lo hi (pointAt addr s).port.ptr) (fun s => writeHere b (pointAt addr s)) s

/-- COUNTER_VALUE_WRITE (R173, R188, R190). -/
def execCounterValueWrite (t : Nat) (addr : Option Byte) (b : Byte) (s : State) : Answer :=
  act t (writeWithin 0x40 0x65 addr b) s

/-- COUNTER_SETTINGS_WRITE (R173, R188). -/
def execCounterSettingsWrite (t : Nat) (addr : Option Byte) (b : Byte) (s : State) : Answer :=
  act t (writeWithin 0x66 0x6D addr b) s

/-- The write of a byte at the pointer; at 0x15 it is a command (R188, R190, R192). -/
def writeAny (b : Byte) (s : State) : State := if s.port.ptr = 0x15 then commandByCode b s else writeHere b s

/-- REGISTER_WRITE (R188): the pointer is set, if the transaction begins here, and a byte written at it, if there is one. -/
def execRegisterWrite (t : Nat) (addr : Option Byte) (b : Option Byte) (s : State) : Answer :=
  act t (fun s =>
    whenever s.responding (fun s =>
      match b with
      | none => pointAt addr s
      | some v => writeAny v (pointAt addr s)) s) s

end Sys2Proof.Machine
end

