-- ==== Sys2Proof/Machine/Source.lean ====
section
/-! DEFINITION. Meanings of the source port's commands: marks, payload, line checks, the silence timer, the line-rate gate, fill lines. -/

namespace Sys2Proof.Machine

/-- The bytes begin with the type byte of an FS (R195, 11.5). -/
def isFs (mark : List Byte) : Bool := mark.head? == some 0x01#8

/-- The bytes begin with the type byte of an LS (11.5). -/
def isLs (mark : List Byte) : Bool := mark.head? == some 0x02#8

/-- FS_ARRIVAL (R1, R4 to R6, R10 to R12, R17, R21, R50). -/
def execFsArrival (t : Nat) (mark : List Byte) (s : State) : Answer :=
  act t (fun s => whenever (s.decodes && isFs mark) (fsMark mark) s) s

/-- The start of a mark in RUN (R3, R8, R16): SILENT ends, the silence timer restarts, and an LS mark is counted while the
gate is open. -/
def markInRun (kind : Byte) (s : State) : State :=
  let awake := whenever (s.src.lock == .silent) (setLock .search) s
  awake.modSrc fun r =>
    let r := { r with silenceFrom := some s.now, lateMark := false }
    if kind = 0x02#8 then r.countMark s.now else r

/-- MARK_START (R3, R8, R16, R22, R145). Outside RUN the mark is not decoded when it arrives later (log 14); in STANDBY it
is source activity. -/
def execMarkStart (t : Nat) (kind : Byte) (s : State) : Answer :=
  act t (fun s =>
    if s.ctl.st = .run then markInRun kind s
    else if s.freeStandby then sourceWakes s
    else s.modSrc fun r => { r with lateMark := true }) s

/-- LS_ARRIVAL (R2, R13 to R17, R19, R24, R26, R196). -/
def execLsArrival (t : Nat) (mark : List Byte) (s : State) : Answer :=
  act t (fun s => whenever (s.decodes && isLs mark) (lsMark mark) s) s

/-- PAYLOAD_BYTE (R2, R3, R20). -/
def execPayloadByte (t : Nat) (b : Byte) (s : State) : Answer :=
  act t (fun s => whenever (s.ctl.st == .run) (fun s => takePayload b (restartSilence s)) s) s

/-- LINE_CHECK_END (R2, R7, R12, R15, R21, R25). A check whose line was not accepted is not evaluated. -/
def execLineCheckEnd (t : Nat) (check : BitVec 16) (s : State) : Answer :=
  act t (fun s =>
    match s.src.line with
    | some l => whenever (s.ctl.st == .run) (judgeLine l (s.linePasses l check)) s
    | none => s) s

/-- The silence timer has run 200 ms (R3). -/
def State.silenceDue (s : State) : Bool := s.ctl.st == .run && passed s.src.silenceFrom (200 * ms) s.now

/-- The lock state becomes SILENT (R8, R9). -/
def goSilent (s : State) : State := (leaveLock .silent s).modSrc fun r => { r with silenceFrom := none }

/-- SILENCE_TIMER_EXPIRY (R3, R8, R9). -/
def execSilenceTimerExpiry (t : Nat) (s : State) : Answer := act t (fun s => whenever s.silenceDue goSilent s) s

/-- The gate has been open for 1,024 µs (R16). -/
def State.gateDue (s : State) : Bool := passed s.src.gateFrom (1024 * us) s.now

/-- The gate closes, and a changed count in use reaches the own lead (R18, R55). -/
def closeGateNow (s : State) : State :=
  whenever (s.src.closeGate.inUse != s.src.inUse) computeOwnLead (s.modSrc Src.closeGate)

/-- LINE_RATE_GATE_CLOSE (R18, R55). -/
def execLineRateGateClose (t : Nat) (s : State) : Answer := act t (fun s => whenever s.gateDue closeGateNow s) s

/-- FILL_LINE (R21, R30): in RUN. A held fill line goes with the commit that frees a slot. -/
def execFillLine (t : Nat) (s : State) : Answer := act t (fun s => whenever (s.ctl.st == .run) issueFill s) s

end Sys2Proof.Machine
end

