-- ==== Sys2Proof/Machine/Windows.lean ====
section
/-! DEFINITION. Meanings of the ends of the membership windows. -/

namespace Sys2Proof.Machine

/-- The listen window has ended (R98). -/
def State.listenDue (s : State) : Bool := s.grp.membership == .listening && reached s.grp.listenEnd s.now

/-- JOIN and STATUS are queued and the membership state becomes JOINING (R98, R121). -/
def beginJoining (s : State) : State :=
  queueStatus (queueNotice .join (beBytes 7 s.ownRecord.encode.toNat) none (setMembership .joining s))

/-- LISTEN_WINDOW_END (R98). -/
def execListenWindowEnd (t : Nat) (s : State) : Answer := act t (fun s => whenever s.listenDue beginJoining s) s

/-- The own refusal window has ended (R102, R104). -/
def State.ownWindowDue (s : State) : Bool := s.grp.membership == .joining && reached s.grp.ownWindowEnd s.now

/-- The self-check (R104): MEMBER, or REFUSED by itself. -/
def selfCheck (s : State) : State :=
  let closed := s.modGrp fun g => { g with ownWindowEnd := none }
  match s.checkSelf with
  | none => setMembership .member closed
  | some r => bindRefusal { refuser := .self, reason := r.code } closed

/-- OWN_REFUSAL_WINDOW_END (R104). -/
def execOwnRefusalWindowEnd (t : Nat) (s : State) : Answer := act t (fun s => whenever s.ownWindowDue selfCheck s) s

/-- The window of an entry has ended (R103). -/
def State.entryDue (s : State) (x : Nat) : Bool :=
  match s.peer x with
  | some p => p.state == .pending && reached p.windowEnd s.now
  | none => false

/-- The judgement at an entry's window end (R103): MEMBER, owed a refusal, or removed. -/
def judgeEntry (x : Nat) (s : State) : State :=
  match s.peer x with
  | none => s
  | some p =>
    match p.join.bind (s.checkEntry x) with
    | none => recompute (setPeer x { p with state := .member, windowEnd := none } s)
    | some r =>
      if s.grp.membership.active then setPeer x { p with windowEnd := none, due := some r } s else removePeer x s

/-- ENTRY_WINDOW_END (R103). -/
def execEntryWindowEnd (t : Nat) (x : StationNo) (s : State) : Answer :=
  act t (fun s => whenever (s.entryDue x.toNat) (judgeEntry x.toNat) s) s

end Sys2Proof.Machine
end

