-- ==== Sys2Proof/Machine/Wire.lean ====
section
/-! DEFINITION. Meanings of the cadence bus commands other than accepted notices. -/

namespace Sys2Proof.Machine

/-- NOTICE_ATTEMPT_START (R71, R75, R82, R83, R86). -/
def execNoticeAttemptStart (t : Start) (s : State) : Answer := act t.moment (attemptStarts t.heard) s

/-- Applies `f` to the register while the bit engine is in state `e`. -/
def withReg (e : Engine) (f : TxReg → State → State) (s : State) : State :=
  match s.bus.reg with
  | some r => if s.bus.engine = e then f r s else s
  | none => s

/-- The preamble and its gap are over: 12 + 12 + 12 + 240 µs (R86). -/
def TxReg.gapOver (r : TxReg) (now : Nat) : Bool := decide (r.startedAt + 276 * us ≤ now)

/-- WAKE_GAP_END (R86). -/
def execWakeGapEnd (t : Nat) (s : State) : Answer :=
  act t (withReg .wakeSend fun r s => whenever (r.gapOver s.now) (sendStartBit r) s) s

/-- A preamble is stopped by a dominant read (R86). ARB_LOSSES is raised before the return to the slot (DESIGN CHOICE, log 41). -/
def stopPreamble (r : TxReg) (s : State) : State :=
  giveWay r (raise .arbLosses (s.modBus fun b =>
    { b with
      engine := .waitIdle, idleCount := 0, runFrom := some s.now, recessiveFrom := some (s.now + b.bitTime) }))

/-- PREAMBLE_INTERRUPTED (R86). -/
def execPreambleInterrupted (t : Nat) (s : State) : Answer := act t (withReg .wakeSend stopPreamble) s

/-- ARBITRATION_LOSS (R76, R77): at a bit the station drove recessive. -/
def execArbitrationLoss (t : Nat) (pos : Nat) (s : State) : Answer :=
  act t (withReg .sending fun r s => whenever (r.bits[pos]? == some true) (loseArbitration r pos) s) s

/-- BIT_ERROR (R76, R81): at a bit the station drove dominant. -/
def execBitError (t : Nat) (pos : Nat) (s : State) : Answer :=
  act t (withReg .sending fun r s => whenever (r.bits[pos]? == some false) (bitErrorAt r pos) s) s

/-- STUFFING_ERROR (R73, R80, R149): six equal bits end what was read. -/
def execStuffingError (t : Nat) (dominant : Bool) (s : State) : Answer :=
  act t (fun s => whenever s.hears (discardNotice (if dominant then 0 else 6) (s.bitsLong 6) false) s) s

/-- The run that ends a stuffed range, no more than five bits (R73). -/
def tailRead (l : Tail) : List Bool := List.replicate (min 5 l.bits) (!l.dominant)

/-- The recessive bits that end a notice whose check failed (R69); `drives` says that this station drove the NAK slot. -/
def badRun (e : BadEnd) (drives : Bool) : Nat := endRun (tailRead e.tail) (e.nak || drives) e.ends

/-- The dominant bits that end it with the own driver recessive (R90): none before the NAK slot where this station drove
that. -/
def badLow (e : BadEnd) (drives : Bool) : Nat :=
  if drives then trailingLow (bitsOf 7 e.ends.toNat) else trailingLow (readToEnd (tailRead e.tail) e.nak e.ends)

/-- A failed check (R79): the NAK slot is driven where the driver is enabled. -/
def checkFails (e : BadEnd) (s : State) : State :=
  let drives := s.driverEnabled
  discardNotice (badRun e drives) (s.bitsLong (badRun e drives + badLow e drives)) drives s

/-- NOTICE_CHECK_FAILURE (R79, R149). -/
def execNoticeCheckFailure (t : Nat) (e : BadEnd) (s : State) : Answer :=
  act t (fun s => whenever s.hears (checkFails e) s) s

/-- The length of the run that ends what was read at a form error (R72, R73, R78): at most five bits, or seven with a dominant
NAK slot and end bit. -/
def tailAtPoint (l : Tail) : Nat := min (if l.dominant then 7 else 5) l.bits

/-- A form error (R78). -/
def formFails (l : Tail) (s : State) : State :=
  discardNotice (if l.dominant then 0 else tailAtPoint l) (s.bitsLong (tailAtPoint l)) false s

/-- NOTICE_FORM_ERROR (R78, R149). -/
def execNoticeFormError (p : FormPoint) (s : State) : Answer :=
  act p.moment (fun s => whenever s.hears (formFails p.tail) s) s

/-- ATTEMPT_END (R81, R83). -/
def execAttemptEnd (t : Nat) (nak : Bool) (ends : BitVec 7) (s : State) : Answer :=
  act t (withReg .sending fun r s => finishAttempt r nak ends s) s

/-- The recessive bits read when a preamble's run is found out of range (R69, R87): none at the end of a run that is too short
or within a dominant run that is too long, nine or more within a recessive run that exceeds 20 µs. -/
def preambleRun (r1 r2 : Nat) : Nat := if runOk r1 && decide (20 * us < r2) then 9 else 0

/-- How long the wire has read the level that is found there: 0 at the end of a run, the run's own length within one that is
too long (R87, R89, R90). -/
def preambleAge (r1 r2 r3 : Nat) : Nat :=
  let run := if !runOk r1 then r1 else if !runOk r2 then r2 else r3
  if 20 * us < run then run else 0

/-- A preamble's three runs (R87), at the end of the last: recognised, or a stuffing error. -/
def judgePreamble (r1 r2 r3 : Nat) (s : State) : State :=
  if patternOk r1 r2 r3 then
    (leaveWire 0 0 s).modBus fun b => { b with holdoff := some (s.now + 2 * ms) }
  else discardNotice (preambleRun r1 r2) (preambleAge r1 r2 r3) false s

/-- PREAMBLE_RECOGNISED (R87). -/
def execPreambleRecognised (t : Nat) (r1 r2 r3 : Nat) (s : State) : Answer :=
  act t (fun s => whenever s.hears (judgePreamble r1 r2 r3) s) s

/-- WAKE_HOLDOFF_EXPIRY (R87). -/
def execWakeHoldoffExpiry (t : Nat) (s : State) : Answer :=
  act t (fun s => whenever (reached s.bus.holdoff s.now) (fun s => s.modBus fun b => { b with holdoff := none }) s) s

/-- DRIVER_MUTE (R88, R89): the driver can pull the wire wherever it is enabled (R70). -/
def execDriverMute (t : Nat) (s : State) : Answer := act t (fun s => whenever s.driverEnabled muteDriver s) s

/-- A mute can be released (R89): only with 200 µs of recessive wire at a stretch, so not at the end of a notice that broke the
stretch (DESIGN CHOICE, log 42). -/
def State.releaseDue (s : State) : Bool :=
  (s.ctl.st == .run || s.ctl.st == .standby) && s.bus.mute == .muted && s.bus.engine == .idle &&
    passed s.bus.recessiveFrom (200 * us) s.now && passed s.bus.muteFrom (200 * us) s.now

/-- MUTE_RELEASE (R89). -/
def execMuteRelease (t : Nat) (s : State) : Answer :=
  act t (fun s => whenever s.releaseDue (fun s => s.modBus fun b => { b with mute := .enabled }) s) s

/-- The stuck-bus run can have lasted 200 µs with the own driver recessive (R90). An engine in IDLE has read no dominant
bit. -/
def State.stuckDue (s : State) : Bool :=
  (match s.bus.engine with
   | .waitIdle | .receiving => true
   | .off | .idle | .lost | .sending | .wakeSend => false) && passed s.bus.runFrom (200 * us) s.now

/-- The bus is lost (R85, R90, R115, R149). -/
def loseBus (s : State) : State :=
  let lost := emptyQueue (setFlag .busLost (s.modBus fun b =>
    { b with engine := .lost, idleCount := 0, recessiveFrom := some s.now }))
  let alone := whenever (s.grp.membership != .outside) (setMembership .alone) lost
  whenever s.inDecodeWindow backToDetector alone

/-- BUS_LOST (R90). -/
def execBusLost (t : Nat) (s : State) : Answer := act t (fun s => whenever s.stuckDue loseBus s) s

/-- The ninth recessive bit of the present run can have been read: its middle, at which it is sampled, is reached (R68, R69,
log 10). -/
def State.idleDue (s : State) : Bool :=
  s.bus.engine == .waitIdle && passed s.bus.recessiveFrom (17 * s.bus.bitTime / 2) s.now

/-- The wire is idle (R69, R71). -/
def reachIdle (s : State) : State :=
  s.modBus fun b => { b with engine := .idle, idleCount := 9, runFrom := some s.now }

/-- The lost bus has been recessive for 200 µs (R90). -/
def State.recoveryDue (s : State) : Bool :=
  s.bus.engine == .lost && passed s.bus.recessiveFrom (200 * us) s.now

/-- The bus recovers (R90, R115). -/
def recoverBus (s : State) : State :=
  whenever (s.grp.membership == .alone) (setMembership s.returnState) (reachIdle s)

/-- BUS_RECOVERED (R90, R115). -/
def execBusRecovered (t : Nat) (s : State) : Answer := act t (fun s => whenever s.recoveryDue recoverBus s) s

/-- BUS_IDLE (R69, R71). -/
def execBusIdle (t : Nat) (s : State) : Answer := act t (fun s => whenever s.idleDue reachIdle s) s

end Sys2Proof.Machine
end

