-- ==== Sys2Proof/Machine/Writer.lean ====
section
/-! DEFINITION. Meanings of the tile writer's commands. -/

namespace Sys2Proof.Machine

/-- The head becomes WRITING and the writer enters TRANSFER (R33). -/
def takeHead (s : State) : State :=
  s.modLq fun q => { q with ring := mapHead (fun a => { a with phase := .writing }) q.ring, writer := .transfer }

/-- WRITER_TAKE (R33, R34): where the guard refuses, the writer is HELD. -/
def execWriterTake (t : Nat) (s : State) : Answer :=
  act t (fun s => if s.canTake then takeHead s else decideHead s) s

/-- The copy runs (R35). -/
def State.copying (s : State) : Bool := s.lq.writer == .transfer && s.lq.staging.isNone

/-- The copy is complete and the guard decided again: STAGED where it refuses (R35). Where it allows, the state stays TRANSFER
until the commit (DESIGN CHOICE, log 26). -/
def finishCopy (s : State) : State :=
  match s.lq.ring with
  | a :: _ =>
    s.modLq fun q =>
      { q with staging := some a.pixels, writer := if s.guardAllows a.serial a.row then .transfer else .staged }
  | [] => s

/-- TRANSFER_COMPLETE (R35). -/
def execTransferComplete (t : Nat) (s : State) : Answer := act t (fun s => whenever s.copying finishCopy s) s

/-- WRITER_COMMIT (R30, R34, R35, R39, R40): where the guard refuses, the writer is STAGED. -/
def execWriterCommit (t : Nat) (s : State) : Answer :=
  act t (fun s => if s.canCommit then commit s else decideHead s) s

end Sys2Proof.Machine
end

