-- ==== Sys2Proof/Machine/Dispatch.lean ====
section
/-! DEFINITION. One arm per command: which meaning it has. -/

namespace Sys2Proof.Machine

/-- The effect of a command on everything but the queue. -/
def exec (i : Instr) (s : State) : Host.Outcome State Fault Refusal :=
  match i with
  | .fsArrival t mark => Sys2Proof.Machine.execFsArrival t mark s
  | .markStart t kind => Sys2Proof.Machine.execMarkStart t kind s
  | .lsArrival t mark => Sys2Proof.Machine.execLsArrival t mark s
  | .payloadByte t b => Sys2Proof.Machine.execPayloadByte t b s
  | .lineCheckEnd t check => Sys2Proof.Machine.execLineCheckEnd t check s
  | .silenceTimerExpiry t => Sys2Proof.Machine.execSilenceTimerExpiry t s
  | .lineRateGateClose t => Sys2Proof.Machine.execLineRateGateClose t s
  | .fillLine t => Sys2Proof.Machine.execFillLine t s
  | .writerTake t => Sys2Proof.Machine.execWriterTake t s
  | .transferComplete t => Sys2Proof.Machine.execTransferComplete t s
  | .writerCommit t => Sys2Proof.Machine.execWriterCommit t s
  | .idlePassStart t => Sys2Proof.Machine.execIdlePassStart t s
  | .newFrameScanStart t => Sys2Proof.Machine.execNewFrameScanStart t s
  | .repeatScanStart t => Sys2Proof.Machine.execRepeatScanStart t s
  | .scanRowRead t => Sys2Proof.Machine.execScanRowRead t s
  | .scanEnd t => Sys2Proof.Machine.execScanEnd t s
  | .minPeriodExpiry t => Sys2Proof.Machine.execMinPeriodExpiry t s
  | .strobePulseStart t => Sys2Proof.Machine.execStrobePulseStart t s
  | .strobePulseEnd t => Sys2Proof.Machine.execStrobePulseEnd t s
  | .repeatDeadline t => Sys2Proof.Machine.execRepeatDeadline t s
  | .groupOfOneRepeat t => Sys2Proof.Machine.execGroupOfOneRepeat t s
  | .privateRepeat t => Sys2Proof.Machine.execPrivateRepeat t s
  | .noticeAttemptStart t => Sys2Proof.Machine.execNoticeAttemptStart t s
  | .wakeGapEnd t => Sys2Proof.Machine.execWakeGapEnd t s
  | .preambleInterrupted t => Sys2Proof.Machine.execPreambleInterrupted t s
  | .arbitrationLoss t pos => Sys2Proof.Machine.execArbitrationLoss t pos s
  | .bitError t pos => Sys2Proof.Machine.execBitError t pos s
  | .stuffingError t dominant => Sys2Proof.Machine.execStuffingError t dominant s
  | .noticeCheckFailure t nak => Sys2Proof.Machine.execNoticeCheckFailure t nak s
  | .noticeFormError t => Sys2Proof.Machine.execNoticeFormError t s
  | .attemptEnd t nak ends => Sys2Proof.Machine.execAttemptEnd t nak ends s
  | .preambleRecognised t run1 run2 run3 => Sys2Proof.Machine.execPreambleRecognised t run1 run2 run3 s
  | .wakeHoldoffExpiry t => Sys2Proof.Machine.execWakeHoldoffExpiry t s
  | .driverMute t => Sys2Proof.Machine.execDriverMute t s
  | .muteRelease t => Sys2Proof.Machine.execMuteRelease t s
  | .busLost t => Sys2Proof.Machine.execBusLost t s
  | .busRecovered t => Sys2Proof.Machine.execBusRecovered t s
  | .repeatReceived t h => Sys2Proof.Machine.execRepeatReceived t h s
  | .refuseReceived t h payload => Sys2Proof.Machine.execRefuseReceived t h payload s
  | .leaveReceived t h reason => Sys2Proof.Machine.execLeaveReceived t h reason s
  | .joinReceived t h payload => Sys2Proof.Machine.execJoinReceived t h payload s
  | .statusReceived t h payload => Sys2Proof.Machine.execStatusReceived t h payload s
  | .wakeReceived t h mask => Sys2Proof.Machine.execWakeReceived t h mask s
  | .standbyReceived t h => Sys2Proof.Machine.execStandbyReceived t h s
  | .countReceived t h action => Sys2Proof.Machine.execCountReceived t h action s
  | .identReceived t h seconds => Sys2Proof.Machine.execIdentReceived t h seconds s
  | .listenWindowEnd t => Sys2Proof.Machine.execListenWindowEnd t s
  | .ownRefusalWindowEnd t => Sys2Proof.Machine.execOwnRefusalWindowEnd t s
  | .entryWindowEnd t x => Sys2Proof.Machine.execEntryWindowEnd t x s
  | .powerLoss t => Sys2Proof.Machine.execPowerLoss t s
  | .powerGood t straps => Sys2Proof.Machine.execPowerGood t straps s
  | .resetPinAssert t => Sys2Proof.Machine.execResetPinAssert t s
  | .resetPinRelease t straps => Sys2Proof.Machine.execResetPinRelease t straps s
  | .configRead t image => Sys2Proof.Machine.execConfigRead t image s
  | .bootEnd t => Sys2Proof.Machine.execBootEnd t s
  | .departureEntry t => Sys2Proof.Machine.execDepartureEntry t s
  | .silentRunTimeReached t => Sys2Proof.Machine.execSilentRunTimeReached t s
  | .sourceActivity t => Sys2Proof.Machine.execSourceActivity t s
  | .wakePatternAccepted t run1 run2 run3 => Sys2Proof.Machine.execWakePatternAccepted t run1 run2 run3 s
  | .wakePatternTimeout t => Sys2Proof.Machine.execWakePatternTimeout t s
  | .fullReceiverUp t => Sys2Proof.Machine.execFullReceiverUp t s
  | .decodeWindowExpiry t => Sys2Proof.Machine.execDecodeWindowExpiry t s
  | .supplySenseChange t low => Sys2Proof.Machine.execSupplySenseChange t low s
  | .supplyLowTimerExpiry t => Sys2Proof.Machine.execSupplyLowTimerExpiry t s
  | .temperatureReading t degrees => Sys2Proof.Machine.execTemperatureReading t degrees s
  | .identifyTimerExpiry t => Sys2Proof.Machine.execIdentifyTimerExpiry t s
  | .sleep t => Sys2Proof.Machine.execSleep t s
  | .wake t => Sys2Proof.Machine.execWake t s
  | .rejoin t => Sys2Proof.Machine.execRejoin t s
  | .identify t => Sys2Proof.Machine.execIdentify t s
  | .freeze t => Sys2Proof.Machine.execFreeze t s
  | .thaw t => Sys2Proof.Machine.execThaw t s
  | .clear t => Sys2Proof.Machine.execClear t s
  | .groupFreeze t => Sys2Proof.Machine.execGroupFreeze t s
  | .groupThaw t => Sys2Proof.Machine.execGroupThaw t s
  | .groupClear t => Sys2Proof.Machine.execGroupClear t s
  | .clearFault t => Sys2Proof.Machine.execClearFault t s
  | .reset t straps => Sys2Proof.Machine.execReset t straps s
  | .unknownCommand t code => Sys2Proof.Machine.execUnknownCommand t code s
  | .imageByteRead t => Sys2Proof.Machine.execImageByteRead t s
  | .imageIndexWrite t b => Sys2Proof.Machine.execImageIndexWrite t b s
  | .snapshotLatchRead t addr => Sys2Proof.Machine.execSnapshotLatchRead t addr s
  | .flagClearWrite t high b => Sys2Proof.Machine.execFlagClearWrite t high b s
  | .maskWrite t high b => Sys2Proof.Machine.execMaskWrite t high b s
  | .counterValueWrite t addr b => Sys2Proof.Machine.execCounterValueWrite t addr b s
  | .counterSettingsWrite t addr b => Sys2Proof.Machine.execCounterSettingsWrite t addr b s
  | .registerWrite t addr b => Sys2Proof.Machine.execRegisterWrite t addr b s
  | .busIdle t => Sys2Proof.Machine.execBusIdle t s
  | .wakePatternRejected t => Sys2Proof.Machine.execWakePatternRejected t s

end Sys2Proof.Machine
end

