-- ==== Sys2Proof/Machine/Own.lean ====
section
/-! DEFINITION. The station's own steps: which of the commands that only the station itself brings about is due at its clock (log 3). -/

namespace Sys2Proof.Machine

/-- The first entry of the table whose window has ended (R103). -/
def firstEntryDue (now : Nat) : List (Nat × Peer) → Option Nat
  | [] => none
  | (n, p) :: rest => if p.state == .pending && reached p.windowEnd now then some n else firstEntryDue now rest

/-- The strobe pulse is to begin or end (R66). -/
def State.pulseDue (s : State) : Option Instr :=
  match s.scan.strobe with
  | .scheduled a => if a ≤ s.now then some (.strobePulseStart s.now) else none
  | .on a => if a ≤ s.now then some (.strobePulseEnd s.now) else none
  | .off => none

/-- A fill line can be issued, or is to be held for the first time (R21, R30). -/
def State.fillDue (s : State) : Bool :=
  s.ctl.st == .run &&
    (match s.src.fill with
     | some f => decide (s.lq.occupancy < 48) || !f.held
     | none => false)

/-- The preamble's gap is over (R86). -/
def State.gapDue (s : State) : Bool :=
  match s.bus.reg with
  | some r => s.bus.engine == .wakeSend && r.gapOver s.now
  | none => false

/-- One of the station's own steps with its condition. -/
def dueStep (p : Bool) (i : Instr) : Option Instr := if p then some i else none

/-- The own steps that are due at the clock, in a fixed order (log 3). -/
def State.dueSteps (s : State) : List (Option Instr) :=
  let t := s.now
  [dueStep s.departureDue (.departureEntry t), dueStep s.bootOver (.bootEnd t),
   dueStep s.canCommit (.writerCommit t), dueStep s.canTake (.writerTake t), dueStep s.copying (.transferComplete t),
   dueStep s.rowDue (.scanRowRead t), dueStep s.scanOver (.scanEnd t), dueStep s.periodDue (.minPeriodExpiry t),
   dueStep s.owedDue (.repeatScanStart t), dueStep s.newFrameDue (.newFrameScanStart t)] ++
  [dueStep s.repeatDue (.repeatDeadline t), dueStep s.groupOfOneDue (.groupOfOneRepeat t),
   dueStep s.privateDue (.privateRepeat t), s.pulseDue, dueStep s.idlePassDue (.idlePassStart t),
   dueStep s.fillDue (.fillLine t), dueStep s.gateDue (.lineRateGateClose t),
   dueStep s.silenceDue (.silenceTimerExpiry t), dueStep (s.standbyHolds && !s.judged.standby) (.silentRunTimeReached t),
   dueStep s.listenDue (.listenWindowEnd t)] ++
  [dueStep s.ownWindowDue (.ownRefusalWindowEnd t),
   (firstEntryDue s.now s.grp.peers).map fun x => .entryWindowEnd t (BitVec.ofNat 4 x),
   dueStep s.supplyDue (.supplyLowTimerExpiry t), dueStep s.identifyDue (.identifyTimerExpiry t),
   dueStep s.receiverDue (.fullReceiverUp t), dueStep s.windowDue (.decodeWindowExpiry t),
   dueStep (reached s.bus.holdoff s.now) (.wakeHoldoffExpiry t), dueStep s.gapDue (.wakeGapEnd t),
   dueStep s.canSend (.noticeAttemptStart { moment := t, heard := false })]

/-- The first of some own steps that is due. -/
def firstDue : List (Option Instr) → Option Instr
  | [] => none
  | some i :: _ => some i
  | none :: rest => firstDue rest

/-- The own step due at the clock, if there is one (log 3). -/
def State.ownStep (s : State) : Option Instr := firstDue s.dueSteps

end Sys2Proof.Machine
end

