-- ==== Sys2Proof/Safety.lean ====
section
/-! DEFINITION. What the statements speak of: a command's answer, the part of State that the standing judgements may still change, reads of the picture, and the invariants that every step keeps. -/

namespace Sys2Proof.Machine

/-! ### A command's answer -/

/-- The moment a command at `t` acts in state `s` (log 1). -/
def State.momentOf (s : State) (t : Nat) : Nat := max s.now t

/-- The register but for its withdrawal mark (R84). -/
def TxReg.fixed (r : TxReg) : TxReg := { r with withdrawn := false }

/-- The standing judgements that follow every command (R52, R105, R121, R142; log 19) touch nothing but the STATUS, REFUSE and
STANDBY slots, the withdrawal mark of the register, and their own notes: `s'` is `u` but for these. -/
def JudgedFrom (u s' : State) : Prop :=
  s' = { u with
    bus := { u.bus with
      q := { u.bus.q with refuse := s'.bus.q.refuse, status := s'.bus.q.status, standby := s'.bus.q.standby }
      reg := s'.bus.reg }
    judged := s'.judged } ∧
  s'.bus.reg.map TxReg.fixed = u.bus.reg.map TxReg.fixed

/-- Command `i` completes in state `s` and leaves `u`, but for the standing judgements. -/
def Gives (i : Instr) (s u : State) : Prop := ∃ s', exec i s = .next s' ∧ JudgedFrom u s'

/-- Command `i` completes in state `s`, in a state with property `P`. -/
def Ends (i : Instr) (s : State) (P : State → Prop) : Prop := ∃ s', exec i s = .next s' ∧ P s'

/-- The lag meter but for the fate of the own COUNT (R175). -/
def Lag.counts (l : Lag) : Lag := { l with outcome := .none }

/-- The notice in the register will be offered again unless it was withdrawn or a newer one waits (R83, R84): what its slot
then holds, `n` being the notice as it returns. -/
def State.slotAfterReturn (s : State) (r : TxReg) (n : Queued) : Option Queued :=
  if r.withdrawn then s.bus.q.get r.kind else (s.bus.q.get r.kind).or (some n)

/-- A kind whose slot no standing judgement touches. -/
def Kind.plain : Kind → Bool
  | .refuse | .status | .standby => false
  | .rep | .leave | .join | .wake | .count | .ident => true

/-- An event that queues COUNT(FREEZE): a counter with GROUP_STOP wraps at it, at a MEMBER (R171). -/
def State.stopsGroup (s : State) (e : Event) : Bool :=
  s.lag.wrapAction e (· == .groupStop) && s.grp.membership == .member

/-- The lag meter counts, no wrap of a counter stops it, and no group action waits: each event adds what R170 gives, whatever
else the command brings. -/
def Lag.runsFree (l : Lag) : Bool :=
  !l.frozen && l.c0.action == .none && l.c1.action == .none && l.c2.action == .none && l.c3.action == .none &&
    l.actions.isEmpty

/-- The values of 0x40 to 0x65: first address, length in bytes, value (R195). -/
def Lag.values (l : Lag) : List (Nat × Nat × Nat) :=
  [(0x40, 5, l.c0.value.toNat), (0x45, 5, l.c1.value.toNat), (0x4A, 5, l.c2.value.toNat), (0x4F, 5, l.c3.value.toNat),
   (0x54, 5, l.frames.toNat), (0x59, 5, l.repeats.toNat), (0x5E, 5, l.lagSum.toNat), (0x63, 3, l.lagMax.toNat)]

/-! ### Frames -/

/-- The blocks of State, the clock, the queue of commands and the notes of the standing judgements aside. -/
inductive Block where
  | src | lq | mem | scan | bus | grp | ctl | ovl | lag | ldr | cfg | port
  deriving DecidableEq, Repr

/-- What every command may do to the bus interface: the slots that the standing judgements keep, COUNT(FREEZE) at a wrap
(R171), and the withdrawal mark of the register. -/
def BusKept (b b' : Bus) : Prop :=
  b' = { b with
    q := { b.q with refuse := b'.q.refuse, status := b'.q.status, standby := b'.q.standby, count := b'.q.count }
    reg := b'.reg } ∧
  b'.reg.map TxReg.fixed = b.reg.map TxReg.fixed

/-- A counter but for its value and its condition. -/
def Counter.ruling (c : Counter) : Counter := { c with value := 0, met := false }

/-- What every command may do to the lag meter is to raise events: the settings and the group action list stay. -/
def LagKept (l l' : Lag) : Prop :=
  l'.c0.ruling = l.c0.ruling ∧ l'.c1.ruling = l.c1.ruling ∧ l'.c2.ruling = l.c2.ruling ∧
    l'.c3.ruling = l.c3.ruling ∧ l'.actions = l.actions

/-- What every command may do to the service port is to set flags. -/
def PortKept (p p' : Port) : Prop := p' = { p with flags := p'.flags } ∧ p'.flags &&& p.flags = p.flags

/-- The frame of a command: every block but the ones listed is unchanged, as far as raised events (R169 to R171), flags (R191)
and the standing judgements (R105, R121, R142) let it be. -/
def Kept (touched : List Block) (s s' : State) : Prop :=
  (.src ∉ touched → s'.src = s.src) ∧ (.lq ∉ touched → s'.lq = s.lq) ∧ (.mem ∉ touched → s'.mem = s.mem) ∧
    (.scan ∉ touched → s'.scan = s.scan) ∧ (.bus ∉ touched → BusKept s.bus s'.bus) ∧
    (.grp ∉ touched → s'.grp = s.grp) ∧ (.ctl ∉ touched → s'.ctl = s.ctl) ∧
    (.ovl ∉ touched → s'.ovl = s.ovl) ∧ (.lag ∉ touched → LagKept s.lag s'.lag) ∧ (.ldr ∉ touched → s'.ldr = s.ldr) ∧
    (.cfg ∉ touched → s'.cfg = s.cfg) ∧ (.port ∉ touched → PortKept s.port s'.port)

/-- A receiver's removal of the stuff bits (R73): the bit after a run of five goes, and begins the next run. -/
def unstuffFrom (last : Bool) (run : Nat) : List Bool → List Bool
  | [] => []
  | b :: rest =>
    if run = 5 then unstuffFrom b 1 rest else b :: unstuffFrom b (if b = last then run + 1 else 1) rest

/-- A text of 0 and 1 as bits, other characters being left out. -/
def bitsFrom (text : String) : List Bool :=
  (text.toList.filter fun c => c == '0' || c == '1').map fun c => c == '1'

/-- A notice from another station reaches its owner, outside a decode window (R70, R71, R78). -/
def State.takesFrom (s : State) (h : Rx) : Bool :=
  s.hears && h.sender != s.ctl.station && !s.inDecodeWindow

/-- The station follows the sender `x` when their epochs differ (R133): a MEMBER a lower number that is a member, a JOINING
station any lower number, a LISTENER any member, a LISTENING station the first member of its window. -/
def State.follows (s : State) (x : StationNo) : Bool :=
  let m := s.grp.membership
  let lower := decide (x.toNat < s.ctl.station.toNat)
  let member := (s.peer x.toNat).any fun p => p.state == .member
  (m == .member && lower && member) || (m == .joining && lower) || (m == .listener && member) ||
    (m == .listening && member && !s.grp.listenAdopted)

/-- No SILENT entry is there for the sender: its notice brings no re-check (R112). -/
def State.knownAwake (s : State) (x : StationNo) : Bool := (s.peer x.toNat).all fun p => p.state != .silent

/-- The peer table when an adoption has moved every pending announcement into use and `x` was heard (R96, R135). -/
def State.peersAdopted (s : State) (x : StationNo) : List (Nat × Peer) :=
  s.grp.peers.map fun e =>
    (e.1, { e.2 with
      inUse := (e.2.pend.map (·.ann)).or e.2.inUse, pend := none
      heard := if e.1 = x.toNat then 0 else e.2.heard })

/-- The peer table of this station is kept (R93). -/
def Membership.keepsTable : Membership → Bool
  | .outside | .alone => false
  | _ => true

/-- The kind's owner finds the entry of `x` heard, its count of epochs at 0 (R96). -/
def State.heardZero (s : State) (x : Nat) : Bool := (s.peer x).all fun p => p.heard == 0

/-- The station right after a command of that code was taken, before the command's own effect (R188, R190, R192): the code is
recorded, the pointer has moved past 0x15, the holding register is given up and the forced-listen latch cleared. -/
def State.afterTaking (s : State) (now : Nat) (code : BitVec 4) : State :=
  { s with
    now := now
    port := { s.port with lastCmd := code, ptr := 0x16, holding := none }
    ctl := { s.ctl with forcedListen := false } }

/-- The receiver off and both its runs stopped, and the detector in a state (R92, R147, R149). -/
def State.detectorOnly (s : State) (now : Nat) (d : Detector) : State :=
  { s with
    now := now
    bus := { s.bus with engine := .off, idleCount := 0, holdoff := none, runFrom := none, recessiveFrom := none }
    ctl := { s.ctl with det := d } }

/-- The scan engine once it has no scan and no frame (R45). -/
def Scan.quiet (c : Scan) : Scan :=
  { c with
    st := .dark, lastStart := none, prog := none, waiting := none, overtake := false, repeatMark := false, owed := false
    idlePass := none, strobe := .off }

/-- What every entry to SLEEP and OVERHEAT leaves (R22, R29, R41, R45, R92, R94, R116, R136, R158, R163). -/
def WentDark (s s' : State) : Prop :=
  s'.ctl.departure = none ∧ s'.ctl.standbyPending = false ∧ s'.ctl.sleepFails = 0 ∧ s'.ctl.silentFrom = none ∧
    s'.ctl.supplyFrom = none ∧ s'.mem = Mem.reset ∧ s'.lq = Lq.reset ∧ s'.ovl.identifyUntil = 0 ∧
    (∀ k, s'.bus.q.get k = none) ∧ s'.bus.reg = none ∧ s'.bus.holdoff = none ∧ s'.grp.membership = .outside ∧
    s'.src.frameOpen = false ∧ s'.src.line = none ∧ s'.src.fill = none ∧ s'.src.silenceFrom = none ∧
    s'.scan.st = .dark ∧ s'.scan.prog = none ∧ s'.scan.waiting = none ∧ s'.scan.lastStart = none ∧
    s'.scan.shown = s.scan.shown ∧ s'.grp.epoch = s.grp.epoch ∧ s'.bus.mute = s.bus.mute ∧
    s'.grp.dupLatch = s.grp.dupLatch ∧ s'.grp.refusal = s.grp.refusal ∧ s'.ctl.warm = s.ctl.warm

/-- What every entry to RUN from SLEEP or OVERHEAT leaves (R22, R45, R92, R94, R153, R158); `m` is the return state. -/
def CameUp (s s' : State) (now : Nat) : Prop :=
  let m : Membership := if s.grp.dupLatch then .duplicate else if s.bus.mute = .permanent then .listener else .listening
  s'.ctl.st = .run ∧ s'.ctl.sleepFails = 0 ∧ s'.ctl.silentFrom = none ∧ s'.ctl.det = .off ∧
    s'.ctl.supplyFrom = (if s.ctl.senseLow then some now else none) ∧ s'.src.lock = .search ∧
    s'.src.silenceFrom = some now ∧ s'.grp.membership = m ∧ (m = .listening → s'.grp.listenEnd = some (now + 64000000)) ∧
    (s.bus.engine ≠ .lost → s'.bus.engine = .waitIdle) ∧ s'.port.flags.getLsbD 0 = true ∧
    s'.grp.epoch = s.grp.epoch ∧ s'.scan = s.scan ∧ s'.mem = s.mem ∧ s'.lq = s.lq

/-! ### Scans (R46, R50, R52, R64) -/

/-- No decided SUPPLY departure forbids a scan start, and the station is in RUN (R141). -/
def State.mayScan (s : State) : Bool := s.ctl.st == .run && !s.ctl.departure.any (·.decided)

/-- The minimum frame period has passed at `now`, or the last scan start is NONE (R52). -/
def State.periodOver (s : State) (now : Nat) : Bool :=
  s.scan.lastStart.all fun a => decide (a + s.cfg.profile.minPeriod * 10000 ≤ now)

/-- The raster condition of R50: line t = top + min(L, H) - 1 is reached, or the waiting frame has ended. -/
def State.rasterReached (s : State) (w : Waiting) : Bool :=
  let l := if s.grp.membership = .member then s.grp.groupLead else s.scan.ownLead
  w.ended || s.src.raster.any fun i => decide (s.cfg.top + min l s.cfg.profile.h ≤ i + 1)

/-- The pulse that a pass starting at `now` schedules (R66). -/
def pulseAt (now : Nat) (t : Timing) : Strobe := if t.strobe = 0 then .off else .scheduled (now + t.delay * 1000)

/-- The scan engine right after a scan start at `now` of serial `x` in state `st`, from `c` (R46, R65, R66). The scan serial
aside, everything else of the engine stays. -/
def Scan.begun (c : Scan) (now hold : Nat) (st : ScanState) (x : Serial) : Scan :=
  { c with
    st := st, lastStart := some now, prog := some { serial := x, q := 0 }, overtake := false, holdInUse := hold
    repeatMark := false, owed := false, idlePass := none, active := c.shadow
    strobe := pulseAt now c.shadow }

/-- What a scan start leaves alone: the source receiver, the slots, tile memory and the row map, the station and its
configuration. The own REPEAT is withdrawn from its slot (R46). -/
def ScanFrame (s s' : State) : Prop :=
  s'.src = s.src ∧ s'.lq.ring = s.lq.ring ∧ s'.lq.outPtr = s.lq.outPtr ∧ s'.lq.staging = s.lq.staging ∧ s'.mem = s.mem ∧
    s'.ctl = s.ctl ∧ s'.cfg = s.cfg ∧ s'.ldr = s.ldr ∧ s'.bus.q.rep = none ∧ s'.bus.engine = s.bus.engine ∧
    s'.grp.membership = s.grp.membership

/-- The time between scans in which a repeat can start (R59, R63). -/
def State.repeatable (s : State) : Bool :=
  s.mayScan && s.scan.lastStart.isSome && (s.scan.st == .hold || s.scan.st == .wait)

/-- A row as the panel gets it: the pixels with the latched overlay (R161). -/
def State.shownRow (s : State) (row : Nat) (px : List Pixel) : List Pixel :=
  overlayRow s.ovl s.cfg.profile.w s.cfg.profile.h row px

/-! ### The picture (R38, R39) -/

/-- Row `r` of tile memory and of the row map, as they stand. -/
def State.rowOf (s : State) (r : Nat) : Option (List Pixel) × RowEntry := (Sparse.get s.mem.tile r, s.mem.entry r)

/-- A row whose entry holds a serial has its pixels in tile memory: no undefined pixel is ever shown (R38, R39, R41). -/
def PictureKnown (m : Mem) : Prop := ∀ r, (m.entry r).serial.isSome → (Sparse.get m.tile r).isSome

/-- The canonical form of the sparse tables: rows and stations rise strictly, and no row-map entry is listed that reads as
an unlisted one. -/
def Mem.wf (m : Mem) : Bool :=
  Sparse.wf m.tile && Sparse.wf m.map && m.map.all fun e => e.2 != { serial := none, stale := false }

/-- The three tables of State are in their canonical form. -/
def State.tablesWf (s : State) : Bool := s.mem.wf && Sparse.wf s.grp.peers

/-! ### Lock (R4 to R6, R8) -/

/-- The lock state after an FS (R4, R5, R6, R8): a well-formed one leads from SEARCH (and from SILENT, judged as SEARCH) to
LOCKING, keeps LOCKED or reaches it by an equal geometry, and loses LOCKED by another; a malformed one moves nothing. -/
def lockAfterFs (lock : Lock) (mark : Option FsMark) (same : Bool) : Lock :=
  match lock, mark with
  | .search, some _ => .locking
  | .silent, some _ => .locking
  | .locking, some _ => if same then .locked else .locking
  | .locked, some _ => if same then .locked else .search
  | l, none => l

/-! ### Driving the wire (R70, R71, R75, R83, R88) -/

/-- The bit engine sends. -/
def Engine.drives : Engine → Bool
  | .sending | .wakeSend => true
  | .off | .waitIdle | .idle | .receiving | .lost => false

/-- The driver is enabled whenever the bit engine sends (R70), and the transmit register holds a notice exactly then
(R83). -/
def State.driveSafe (s : State) : Bool :=
  (!s.bus.engine.drives || s.driverEnabled) && (s.bus.reg.isSome == s.bus.engine.drives)

/-! ### The line queue (R23, R24, R32) -/

/-- No slot of the list is in phase `p`. -/
def noPhase (p : Phase) (ring : List Slot) : Bool := ring.all fun a => a.phase != p

/-- The newest slot alone may be FILLING, and it is FILLING exactly when `filling` says so (R23, R24). -/
def fillingLast (filling : Bool) (ring : List Slot) : Bool :=
  noPhase .filling ring.dropLast &&
    (match ring.getLast? with
     | some a => (a.phase == .filling) == filling
     | none => !filling)

/-- The head alone may be WRITING, and it is exactly while the writer is in TRANSFER or STAGED; a HELD writer has a WAITING
head; pixels are staged only during a write, and always in STAGED (R32, R35). -/
def writerFits (q : Lq) : Bool :=
  noPhase .writing q.ring.tail &&
    (match q.writer, q.ring.head? with
     | .transfer, some a => a.phase == .writing
     | .staged, some a => a.phase == .writing && q.staging.isSome
     | .held, some a => a.phase == .waiting && q.staging.isNone
     | .idle, some a => a.phase != .writing && q.staging.isNone
     | .idle, none => q.staging.isNone
     | _, none => false)

/-- The line queue as R23, R24 and R32 give it: at most 48 slots, an out-pointer of the ring, one FILLING slot at most and
that the newest, one WRITING slot at most and that the head. -/
def State.queueFits (s : State) : Bool :=
  decide (s.lq.ring.length ≤ 48) && decide (s.lq.outPtr < 48) &&
    fillingLast (match s.src.line with | some l => l.claimed | none => false) s.lq.ring && writerFits s.lq

/-- What keeps the intake from offering two lines at once (R12, R21, R22, R24, R30): a frame is open in RUN and LOCKED alone,
a line in progress belongs to the open frame, a fill runs only after a frame's end; outside RUN there is neither and the
queue is empty; in STANDBY the lock state is SILENT. -/
def State.intakeFits (s : State) : Bool :=
  (!s.src.frameOpen || (s.src.lock == .locked && s.ctl.st == .run)) &&
    (s.src.line.isNone || s.src.frameOpen) && (s.src.fill.isNone || !s.src.frameOpen) &&
    (s.ctl.st == .run || (s.src.line.isNone && s.src.fill.isNone && s.lq.ring.isEmpty)) &&
    (s.ctl.st != .standby || s.src.lock == .silent)

/-! ### Counts that stay in their ranges -/

/-- The group action list holds one record for an effective epoch, each one or two epochs ahead (R177). -/
def actionsFit (epoch : Epoch) : List ActionRec → Bool
  | [] => true
  | [a] => stillAhead a.effective epoch
  | [a, b] => stillAhead a.effective epoch && stillAhead b.effective epoch && a.effective != b.effective
  | _ => false

/-- Counts of the spec within their ranges: the consecutive-failure count, below 8 in LOCKED (R7), the running count (R16), the clean-run count
(3.1), the idle count (R69), the mute history (R89), the clean-epoch count (R117), the sleep-path failure count, which a wake takes back from 4 (R150). -/
def State.countsFit (s : State) : Bool :=
  decide (s.src.fails ≤ 8) && (s.src.lock != .locked || decide (s.src.fails ≤ 7)) && decide (s.src.running ≤ 2047) && decide (s.scan.cleanRun ≤ 239) &&
    decide (s.bus.idleCount ≤ 9) && decide (s.bus.muteAges.length ≤ 2) && decide (s.grp.cleanEpochs ≤ 16) &&
    decide (s.ctl.sleepFails ≤ 3)

/-! ### Scans and membership over the station states -/

/-- The scan engine's parts fit together (R44, R45, R46, R49, R64): a scan is in progress exactly in SCAN and RESCAN, a frame
waits in WAIT and none in DARK and HOLD, a scan in progress and the hold period have a last scan start, a last scan start has
a shown serial, and outside RUN the engine is DARK with no last scan start. -/
def State.scanFits (s : State) : Bool :=
  (s.scan.prog.isSome == (s.scan.st == .scan || s.scan.st == .rescan)) &&
    (s.scan.st != .wait || s.scan.waiting.isSome) &&
    ((s.scan.st != .dark && s.scan.st != .hold) || s.scan.waiting.isNone) &&
    ((s.scan.st != .hold && s.scan.prog.isNone) || s.scan.lastStart.isSome) &&
    (s.scan.lastStart.isNone || s.scan.shown.isSome) &&
    (s.ctl.st == .run || (s.scan.st == .dark && s.scan.lastStart.isNone))

/-- The membership state is OUTSIDE exactly outside RUN and STANDBY (R93). -/
def State.membershipFits (s : State) : Bool :=
  (s.grp.membership == .outside) == !(s.ctl.st == .run || s.ctl.st == .standby)

/-- The own hold limit in use is at least the minimum frame period + 500 µs once the station has its configuration (R58); no
departure is pending before that (R141). -/
def State.holdFits (s : State) : Bool :=
  if s.groupInUse then decide (s.cfg.profile.minPeriod + 50 ≤ s.scan.holdInUse) else s.ctl.departure.isNone

end Sys2Proof.Machine
end

