-- ==== Sys2Proof/Certificates/Slice0/Obligations.lean ====
section
/-! DEFINITION. The statements about the model, as obligations for the provers. `Gives i s u` says that command `i` completes
in `s` and leaves `u` but for the standing judgements (R105, R121, R142), `Ends i s P` that it completes in a state with `P`,
and `Kept l s s'` that every block not in `l` is as it was, as far as raised events, flags and the standing judgements let
it be: these may queue or withdraw REFUSE, STATUS, STANDBY and COUNT, count up, and set flags. -/

open Sys2Proof Sys2Proof.Machine

/-! ### The queue of commands -/

/-- A step takes the command at the front of the queue and runs it on the state with the queue's rest. -/
def Obligations.StepRunsFront : Prop :=
  ∀ (s : State) (c : Instr) (rest : List Instr), step (s.withPending (c :: rest)) = exec c (s.withPending rest)

/-- On an empty queue the part takes its own step that is due at its clock, and idles where none is: the model's choice (log
3). No command touches the queue, and none moves the clock back (log 1, log 2). -/
def Obligations.EmptyQueueAndClock : Prop :=
  (∀ s : State, s.pending = [] →
    (∀ c, s.ownStep = some c → step s = exec c s) ∧ (s.ownStep = none → step s = .next s)) ∧
  (∀ (i : Instr) (s s' : State), exec i s = .next s' → s'.pending = s.pending ∧ s.now ≤ s'.now)

/-! ### Resets and BOOT -/

/-- What every block holds right after reset, for the values the spec states (R22, R43, R92, R116, R117, R158, R167, R168,
R187 to R194); BOOT has just begun. -/
def Obligations.ResetValues : Prop :=
  let z := State.reset
  (z.pending = [] ∧ z.ctl.st = .boot) ∧
  (z.src.lock = .search ∧ z.src.width = 0 ∧ z.src.height = 0 ∧ z.src.lastTag = 0 ∧ z.src.variableCadence = false ∧
    z.src.serial = 0 ∧ z.src.raster = none ∧ z.src.fails = 0 ∧ z.src.skips = 0 ∧ z.src.gateFrom = none ∧
    z.src.running = 0 ∧ z.src.inUse = none ∧ z.src.result = .none) ∧
  (z.lq.ring = [] ∧ z.lq.outPtr = 0 ∧ z.lq.overrun = false ∧ z.lq.writer = .idle ∧ z.lq.staging = none ∧
    (∀ r, z.mem.entry r = { serial := none, stale := false }) ∧ z.mem.staleCount = 0) ∧
  (z.scan.st = .dark ∧ z.scan.lastStart = none ∧ z.scan.prog = none ∧ z.scan.shown = none ∧ z.scan.waiting = none ∧
    z.scan.overtake = false ∧ z.scan.cleanRun = 0 ∧ z.scan.repeatMark = false ∧ z.scan.lastLag = 0) ∧
  (z.bus.engine = .off ∧ z.bus.idleCount = 0 ∧ (∀ k, z.bus.q.get k = none) ∧ z.bus.reg = none ∧ z.bus.mute = .enabled ∧
    z.bus.muteAges = [] ∧ z.bus.muteCount = 0 ∧ z.bus.holdoff = none ∧ z.bus.runFrom = none) ∧
  (z.grp.membership = .outside ∧ z.grp.peers = [] ∧ z.grp.listenEnd = none ∧ z.grp.ownWindowEnd = none ∧
    z.grp.refusal = none ∧ z.grp.dupLatch = false ∧ z.grp.epoch = 0 ∧ z.grp.admMark = none ∧ z.grp.outOfStep = false ∧
    z.grp.cleanEpochs = 0 ∧ z.grp.lastRepeat = .none ∧ z.grp.ownInUse = none ∧ z.grp.ownPend = none) ∧
  (z.ctl.departure = none ∧ z.ctl.standbyPending = false ∧ z.ctl.sleepCause = .none ∧ z.ctl.wakeCause = .none ∧
    z.ctl.forcedListen = false ∧ z.ctl.sleepFails = 0 ∧ z.ctl.silentFrom = none ∧ z.ctl.supplyFrom = none ∧
    z.ctl.warm = false) ∧
  (z.ovl.identifyUntil = 0 ∧ z.ovl.latched = none ∧ z.ovl.drawn = false) ∧
  (z.lag.c0.value = 0 ∧ z.lag.c0.select = 0 ∧ z.lag.c0.qual = .plain ∧ z.lag.c0.threshold = 0 ∧ z.lag.c0.invert = false ∧
    z.lag.c0.action = .none ∧ z.lag.c0.met = false ∧ z.lag.c1 = z.lag.c0 ∧ z.lag.c2 = z.lag.c0 ∧ z.lag.c3 = z.lag.c0 ∧
    z.lag.frames = 0 ∧ z.lag.repeats = 0 ∧ z.lag.lagSum = 0 ∧ z.lag.lagMax = 0 ∧ z.lag.ovf = 0 ∧ z.lag.frozen = true ∧
    z.lag.cause = .reset ∧ z.lag.actions = [] ∧ z.lag.outcome = .none) ∧
  (z.ldr.fault = .none ∧ z.ldr.applied = 0 ∧ z.ldr.ignored = 0) ∧
  (z.port.ptr = 0 ∧ z.port.latch = none ∧ z.port.holding = none ∧ z.port.flags = 0 ∧ z.port.masks = 0 ∧ z.port.arg = 0 ∧
    z.port.cmdRefused = false ∧ z.port.lastCmd = 0 ∧ z.port.imageIdx = 0)

/-- The three resets (R138, R180, R194): the RESET command where the port responds, the rise of RESETn on a held station,
and the return of the supplies in OFF put every block at its values after reset and begin BOOT, with the reset cause and the
straps read. A loss of a supply takes the station to OFF; RESETn low for 10 µs, outside OFF, and the return of the supplies
while RESETn is low hold it in reset, which counts as BOOT with reset cause PIN. The clock, the queue and the levels of the
input pins stay: the model's choice (log 5, log 24). -/
def Obligations.ResetsBeginBoot : Prop :=
  (∀ (s : State) (t : Nat) (straps : StationNo),
    (s.responding = true →
      Gives (.reset t straps) s
        { State.reset with
          now := s.momentOf t, pending := s.pending
          ctl := { State.reset.ctl with
            st := .boot, resetCause := .command, bootFrom := s.momentOf t, station := straps, strapPins := straps
            resetLow := s.ctl.resetLow, senseLow := s.ctl.senseLow } }) ∧
    (s.ctl.held = true → s.ctl.resetLow = true →
      Gives (.resetPinRelease t straps) s
        { State.reset with
          now := s.momentOf t, pending := s.pending
          ctl := { State.reset.ctl with
            st := .boot, resetCause := .pin, bootFrom := s.momentOf t, station := straps, strapPins := straps
            resetLow := false, senseLow := s.ctl.senseLow } }) ∧
    (s.ctl.st = .off → s.ctl.resetLow = false →
      Gives (.powerGood t straps) s
        { State.reset with
          now := s.momentOf t, pending := s.pending
          ctl := { State.reset.ctl with
            st := .boot, resetCause := .power, bootFrom := s.momentOf t, station := straps, strapPins := straps
            resetLow := false, senseLow := s.ctl.senseLow } })) ∧
  (∀ (s : State) (t : Nat) (straps : StationNo),
    Gives (.powerLoss t) s
      { State.reset with
        now := s.momentOf t, pending := s.pending
        ctl := { State.reset.ctl with
          st := .off, resetCause := .none, resetLow := s.ctl.resetLow, senseLow := s.ctl.senseLow
          strapPins := s.ctl.strapPins } } ∧
    (s.ctl.st ≠ .off →
      Gives (.resetPinAssert t) s
        { State.reset with
          now := s.momentOf t, pending := s.pending
          ctl := { State.reset.ctl with
            st := .boot, resetCause := .pin, held := true, resetLow := true, bootFrom := s.momentOf t
            senseLow := s.ctl.senseLow, strapPins := s.ctl.strapPins } }) ∧
    (s.ctl.st = .off → s.ctl.resetLow = true →
      Gives (.powerGood t straps) s
        { State.reset with
          now := s.momentOf t, pending := s.pending
          ctl := { State.reset.ctl with
            st := .boot, resetCause := .pin, held := true, resetLow := true, bootFrom := s.momentOf t
            senseLow := s.ctl.senseLow, strapPins := s.ctl.strapPins } }))

/-- BOOT's one read of the image (R181, R183, R185): the bytes are kept, the checks give the fault code, and the slot counts
are those of the image once check 4 has passed. The checks run in the order of R183, and the first that fails gives the
fault code. The built-in panel profiles, all nine fields of the eight records (R184). -/
def Obligations.ConfigReadChecked : Prop :=
  (∀ (s : State) (t : Nat) (image : List Byte),
    s.ctl.st = .boot → s.ctl.held = false → s.ldr.imageRead = false →
    Gives (.configRead t image) s
      { s with
        now := s.momentOf t
        ldr := {
          image := image, imageRead := true, fault := checkImage image
          applied := if slotsTaken (checkImage image) then (substitute image).applied else 0
          ignored := if slotsTaken (checkImage image) then (substitute image).ignored else 0 } }) ∧
  (∀ image : List Byte,
    let p := (substitute image).profile
    let c1 := imageByte image 0 = 0x5A ∧ imageByte image 1 = 0x4B
    let c2 := imageByte image 2 = 1
    let c3 := (crc16 0xFFFF#16 (image.take 62)).toNat = imageWord image 62
    let c4 := fieldsInRange image = true
    let c5 := p.withinLimits = true
    let c6 := imageWord image 5 + p.w ≤ 8192 ∧ imageWord image 7 + p.h ≤ 4095
    let c7 := p.h * (p.period * 10) + 100000 ≤ p.minPeriod * 10000
    let c8 := (p.delay + max p.coldStrobe p.hotStrobe) * 1000 ≤ p.h * (p.period * 10)
    (¬ c1 → checkImage image = .signature) ∧
    (c1 → ¬ c2 → checkImage image = .version) ∧
    (c1 → c2 → ¬ c3 → checkImage image = .imageCrc) ∧
    (c1 → c2 → c3 → ¬ c4 → checkImage image = .fieldRange) ∧
    (c1 → c2 → c3 → c4 → ¬ c5 → checkImage image = .profileLimit) ∧
    (c1 → c2 → c3 → c4 → c5 → ¬ c6 → checkImage image = .window) ∧
    (c1 → c2 → c3 → c4 → c5 → c6 → ¬ c7 → checkImage image = .framePeriod) ∧
    (c1 → c2 → c3 → c4 → c5 → c6 → c7 → ¬ c8 → checkImage image = .strobe) ∧
    (c1 → c2 → c3 → c4 → c5 → c6 → c7 → c8 → checkImage image = .none)) ∧
  ((List.range 8).map (fun k =>
    let p := builtIn k
    (p.w, p.h, p.period * 10, p.minPeriod * 10, p.cold * 10, p.hot * 10, p.delay, p.coldStrobe, p.hotStrobe)) =
  [(1920, 1080, 7400, 8100, 16600, 16000, 6000, 1500, 1000),
   (1920, 1200, 6900, 8400, 16600, 16000, 6500, 1500, 1000),
   (1920, 1080, 4600, 8100, 33300, 25000, 3500, 1000, 700),
   (1280, 720, 11000, 8100, 16600, 16000, 0, 0, 0),
   (1366, 768, 10200, 8100, 33300, 20000, 0, 0, 0),
   (1600, 900, 8800, 8100, 16600, 12000, 6500, 1200, 800),
   (1024, 768, 13000, 10100, 33300, 25000, 0, 0, 0),
   (1920, 540, 14800, 8100, 16600, 16000, 7000, 900, 600)])

/-- The end of BOOT, 5 ms after its start (R180). With every check passed the station enters RUN with the configuration
handed over: the timing sets for the WARM state, the margin at its base, the own lead H, the clamped hold (R45, R58, R65,
R186), the bit engine WAIT_IDLE (R92), the receiver in SEARCH (R22), the membership in its return state (R94), the group
values of R125 and the identify timer at identify-at-start (R166). With a check failed it enters HALTED with built-in
profile 0 and CONFIG_FAULT (R44, R187), every other configuration value as after reset (log 28), the group values of R125
under that profile (log 6), and both runs of the wire started (log 11); nothing else changes. Every block that the clause
does not list as touched stays as `Kept` says. -/
def Obligations.BootEnds : Prop :=
  ∀ (s : State) (t : Nat),
    s.ctl.st = .boot → s.ctl.held = false → s.ldr.imageRead = true → s.ctl.bootFrom + 5 * ms ≤ s.momentOf t →
    s.grp.membership = .outside → s.bus.engine = .off →
    (s.ldr.fault = .none →
      let c := configOf s.ldr.image
      Ends (.bootEnd t) s fun s' =>
        s'.ctl.st = .run ∧ s'.cfg = c ∧ s'.bus.bitTime = bitTimeOf (imageByte s.ldr.image 11) ∧
        s'.bus.engine = .waitIdle ∧ s'.bus.idleCount = 0 ∧ s'.src.lock = .search ∧
        s'.src.silenceFrom = some (s.momentOf t) ∧ s'.grp.membership = s.returnState ∧ s'.scan.margin = c.marginBase ∧
        s'.scan.ownLead = c.profile.h ∧
        s'.scan.holdInUse =
          max (if s.ctl.warm then c.profile.hot else c.profile.cold) (c.profile.minPeriod + 50) ∧
        s'.grp.groupLead = s'.leadOfGroup ∧ s'.grp.groupHold = s'.holdOfGroup ∧ s'.scan.shadow = c.profile.timing s.ctl.warm ∧ s'.scan.active = c.profile.timing s.ctl.warm ∧
        s'.ovl.identifyUntil = (if c.identifySecs = 0 then 0 else s.momentOf t + c.identifySecs * 1000 * ms) ∧
        Kept [.src, .scan, .bus, .grp, .ctl, .ovl, .cfg] s s') ∧
    (s.ldr.fault ≠ .none →
      let p := builtIn 0
      let u := { s with
        cfg := { Cfg.reset with profile := p }
        scan := { s.scan with shadow := p.timing s.ctl.warm, active := p.timing s.ctl.warm } }
      Gives (.bootEnd t) s
        { u with
          now := s.momentOf t
          grp := { s.grp with groupLead := u.leadOfGroup, groupHold := u.holdOfGroup }
          port := { s.port with flags := s.port.flags ||| BitVec.twoPow 11 9 }
          bus := { s.bus with
            bitTime := bootBitTime s.ldr.image s.ldr.fault, engine := .waitIdle, idleCount := 0
            runFrom := some (s.momentOf t), recessiveFrom := some (s.momentOf t) }
          ctl := { s.ctl with st := .halted } })

/-! ### Source port -/

/-- FS_ARRIVAL in RUN (R1, R4 to R6, R10, R12, R17, R21): the lock state, the geometry, the gate, the fill and the open
frame after the mark; an admission raises the frame serial by 1, modulo 65,536, opens the frame with its raster position
NONE, and keeps the tag and the cadence. In SILENT the mark is judged as in SEARCH (log 14). Lock and geometry aside, the
receiver's other values stay. An admission at the group controller and the scan engine (R10, R49, R118): the epoch moves on
by 1 with the admission mark at the frame's serial, and the frame becomes the waiting frame, admitted now, its ended mark
clear. An FS that comes in LOCKED while a line is unfinished (R6, R7, R28; log 13). Where its geometry loses the lock, that
line is discarded with its slot, its failure is not counted and no event is raised. Otherwise the line fails first, with
LINES_BAD and its slot FREE: the FS of the current geometry is then admitted, unless the failure is the eighth, which loses
the lock and leaves the FS to be judged in SEARCH. What an epoch increment leads to, here that of an admission (R60, R89,
R111, R119, R121, R124, R178): every entry is one epoch older, SILENT at 16 and removed at 64; announcements and counter
actions of the new epoch come into use; 16 clean epochs end OUT_OF_STEP; the mutes age; a waiting REPEAT takes the new
epoch; a MEMBER whose turn it is queues its STATUS. Every block that the clause does not list as touched stays as `Kept`
says. -/
def Obligations.FsMovesLockAndAdmits : Prop :=
  (∀ (s : State) (t : Nat) (mark : List Byte),
    s.ctl.st = .run → s.src.lateMark = false → s.src.line = none → mark.head? = some 0x01#8 →
    let m := readFs mark
    let same := match m with | some m => m.width == s.src.width && m.height == s.src.height | none => false
    let admits := same && (s.src.lock == .locking || s.src.lock == .locked)
    let remembers := m.isSome && s.src.lock != .locked
    Ends (.fsArrival t mark) s fun s' =>
      s'.src.lock = lockAfterFs s.src.lock m same ∧
      s'.src.width = (if remembers then (m.map (·.width)).getD 0 else s.src.width) ∧
      s'.src.height = (if remembers then (m.map (·.height)).getD 0 else s.src.height) ∧
      s'.src.frameOpen = (if admits then true else if s.src.lock = .locked then false else s.src.frameOpen) ∧
      s'.src.serial = (if admits then s.src.serial + 1 else s.src.serial) ∧
      s'.src.raster = (if admits then none else s.src.raster) ∧
      s'.src.lastTag = (if admits then (m.map (·.tag)).getD 0 else s.src.lastTag) ∧
      s'.src.variableCadence = (if admits then (m.map (·.variableCadence)).getD false else s.src.variableCadence) ∧
      s'.src.fill = none ∧ s'.src.gateFrom = none ∧
      s'.src.result = (if s.src.gateFrom.isSome then .discarded else s.src.result) ∧
      s'.src.fails = (if admits && s.src.lock == .locking then 0 else s.src.fails) ∧ s'.src.inUse = s.src.inUse ∧
      s'.src.silenceFrom = s.src.silenceFrom ∧ s'.ctl.st = s.ctl.st ∧
      Kept [.src, .lq, .scan, .bus, .grp, .ctl, .ovl, .lag] s s') ∧
  (∀ (s : State) (t : Nat) (mark : List Byte) (m : FsMark),
    s.ctl.st = .run → s.src.lateMark = false → s.src.line = none → mark.head? = some 0x01#8 → readFs mark = some m →
    m.width = s.src.width → m.height = s.src.height → (s.src.lock = .locking ∨ s.src.lock = .locked) →
    Ends (.fsArrival t mark) s fun s' =>
      s'.grp.epoch = s.grp.epoch + 1 ∧ s'.grp.admMark = some (s.src.serial + 1) ∧
      s'.scan.waiting = some { serial := s.src.serial + 1, admittedAt := s.momentOf t, ended := false } ∧
      s'.lq.overrun = false ∧
      s'.src.skips =
        (if s.src.lock = .locked ∧ s.src.tagKnown ∧ 2 ≤ (m.tag - s.src.lastTag).toNat then
          (if s.src.skips = 0xFFFF#16 then s.src.skips else s.src.skips + 1) else s.src.skips) ∧
      Kept [.src, .lq, .scan, .bus, .grp, .ctl, .ovl, .lag] s s') ∧
  (∀ (s : State) (t : Nat) (mark : List Byte) (m : FsMark) (l : LineIn),
    s.ctl.st = .run → s.src.lateMark = false → s.src.lock = .locked → s.src.line = some l → mark.head? = some 0x01#8 →
    readFs mark = some m → s.queueFits = true → s.lag.runsFree = true → s.lag.c0.select = 2 →
    let same := m.width == s.src.width && m.height == s.src.height
    let ring := if l.claimed then s.lq.ring.dropLast else s.lq.ring
    (same = false →
      Ends (.fsArrival t mark) s fun s' =>
        s'.src.lock = .search ∧ s'.src.line = none ∧ s'.src.fails = s.src.fails ∧ s'.src.frameOpen = false ∧
        s'.port.flags.getLsbD 7 = true ∧ s'.lq.ring = ring ∧ s'.lag.c0 = s.lag.c0 ∧ s'.grp.epoch = s.grp.epoch ∧
        Kept [.src, .lq, .scan, .grp, .ctl] s s') ∧
    (same = true → s.src.fails < 7 →
      Ends (.fsArrival t mark) s fun s' =>
        s'.src.lock = .locked ∧ s'.src.line = none ∧ s'.src.fails = s.src.fails + 1 ∧ s'.src.frameOpen = true ∧
        s'.src.serial = s.src.serial + 1 ∧ s'.lq.ring = ring ∧ s'.lag.c0.value = s.lag.c0.value + 1 ∧
        s'.grp.epoch = s.grp.epoch + 1 ∧ Kept [.src, .lq, .scan, .bus, .grp, .ctl, .ovl, .lag] s s') ∧
    (same = true → 7 ≤ s.src.fails →
      Ends (.fsArrival t mark) s fun s' =>
        s'.src.lock = .locking ∧ s'.src.line = none ∧ s'.src.fails = s.src.fails + 1 ∧ s'.src.frameOpen = false ∧
        s'.src.serial = s.src.serial ∧ s'.port.flags.getLsbD 7 = true ∧ s'.lq.ring = ring ∧
        s'.lag.c0.value = s.lag.c0.value + 1 ∧ s'.grp.epoch = s.grp.epoch ∧
        Kept [.src, .lq, .scan, .grp, .ctl] s s')) ∧
  (∀ (s : State) (t : Nat) (mark : List Byte) (m : FsMark) (n : Nat) (p : Peer),
    s.ctl.st = .run → s.src.lateMark = false → s.src.line = none → mark.head? = some 0x01#8 → readFs mark = some m →
    m.width = s.src.width → m.height = s.src.height → (s.src.lock = .locking ∨ s.src.lock = .locked) →
    let e := s.grp.epoch + 1
    let turn := s.grp.membership == .member && s.ctl.station.toNat % 4 == e.toNat % 4
    let clean := s.grp.outOfStep && decide (16 ≤ s.grp.cleanEpochs + 1)
    let inUse (a : Option Ann) (b : Option PendAnn) := ((b.filter (·.effective == e)).map (·.ann)).or a
    Ends (.fsArrival t mark) s fun s' =>
      s'.grp.epoch = e ∧
      (s.tablesWf = true → s.peer n = some p → p.heard + 1 < 64 →
        (s'.peer n).map (fun q => { q with order := none }) = some { p with
          order := none, heard := p.heard + 1, state := if p.state = .member ∧ 16 ≤ p.heard + 1 then .silent else p.state
          inUse := inUse p.inUse p.pend, pend := p.pend.filter (·.effective != e) }) ∧
      (s.tablesWf = true → s.peer n = some p → 64 ≤ p.heard + 1 → s'.peer n = none) ∧
      (s.peer n = none → s'.peer n = none) ∧
      s'.grp.ownInUse = inUse s.grp.ownInUse s.grp.ownPend ∧
      s'.grp.ownPend = s.grp.ownPend.filter (·.effective != e) ∧ s'.grp.outOfStep = (s.grp.outOfStep && !clean) ∧
      s'.grp.cleanEpochs = (if !s.grp.outOfStep then s.grp.cleanEpochs else if clean then 0 else s.grp.cleanEpochs + 1) ∧
      s'.lag.actions = s.lag.actions.filter (·.effective != e) ∧
      s'.bus.muteAges = (s.bus.muteAges.map (· + 1)).filter (· < 256) ∧
      s'.bus.q.rep.all (fun q => q.epoch == some e) = true ∧
      (turn = true → s'.bus.q.status =
        some { payload := beBytes 4 s'.ownAnnouncement.encode.toNat, fails := 0, epoch := none }) ∧
      s'.grp.membership = s.grp.membership ∧ Kept [.src, .lq, .scan, .bus, .grp, .ctl, .ovl, .lag] s s')

/-- MARK_START in RUN (R3, R8, R16): the silence timer restarts, SILENT ends in SEARCH with its run time back at 0, and an
LS mark that starts within the gate's 1,024 µs is counted, 2,047 going to 0 with the wrap mark set. A payload byte in RUN
(R2, R3, R20): the silence timer restarts unless SILENT; with a line accepted, the byte enters its check and its count, and
the third byte of a pixel inside the tile window and the active width goes to the line's slot. Nothing else changes. -/
def Obligations.MarkStartAndPayload : Prop :=
  (∀ (s : State) (t : Nat) (kind : Byte), s.ctl.st = .run →
    let counts := kind == 0x02#8 && s.src.gateFrom.any (fun g => decide (s.momentOf t < g + 1024 * us))
    Gives (.markStart t kind) s
      { s with
        now := s.momentOf t
        src := { s.src with
          lock := if s.src.lock = .silent then .search else s.src.lock
          silenceFrom := some (s.momentOf t), lateMark := false
          running := if counts then (if s.src.running = 2047 then 0 else s.src.running + 1) else s.src.running
          wrapped := if counts && s.src.running == 2047 then true else s.src.wrapped }
        ctl := { s.ctl with silentFrom := if s.src.lock = .silent then none else s.ctl.silentFrom } }) ∧
  (∀ (s : State) (t : Nat) (b red green : Byte) (l : LineIn), s.ctl.st = .run →
    let timed := { s.src with
      silenceFrom := if s.src.lock = .silent then s.src.silenceFrom else some (s.momentOf t) }
    let x := l.count / 3
    let next := { l with crc := crc16Byte l.crc b, count := l.count + 1 }
    (s.src.line = none → Gives (.payloadByte t b) s { s with now := s.momentOf t, src := timed }) ∧
    (s.src.line = some l → l.part.length ≠ 2 →
      Gives (.payloadByte t b) s
        { s with now := s.momentOf t, src := { timed with line := some { next with part := l.part ++ [b] } } }) ∧
    (s.src.line = some l → l.part = [red, green] →
      Gives (.payloadByte t b) s
        { s with
          now := s.momentOf t
          src := { timed with line := some { next with part := [] } }
          lq := if l.claimed && decide (s.cfg.left ≤ x) && decide (x < s.cfg.left + s.cfg.profile.w) &&
                decide (x < s.src.width) then
              { s.lq with ring := mapNewest (fun a => { a with pixels := a.pixels ++ [red ++ green ++ b] }) s.lq.ring }
            else s.lq }))

/-- An LS accepted in sequence (R13, R15, R16, R17, R19, R24, R26, R169): the raster position is its index at once; a line
of the tile window takes the slot at the in-pointer, FILLING, or is dropped at 48 with OVERRUN set; line 0 opens the gate
and the last line discards it. The lag meter takes LINES_IN, then QUEUE_OCCUPANCY and QUEUE_FULL with the occupancy before
the line's slot, the model's order (log 34), and LINES_DROPPED for a dropped line. Every other LS changes nothing, nor does
a mark of type 0x02 of any other length (R2, R196). An LS that comes while a line is unfinished (log 13): that line fails
first, with LINES_BAD counted, the failure count one higher and its slot FREE (R7, R15, R25). The LS is then accepted or not
as any other. Where the failed line was the last of the picture, or its failure the eighth, the frame has ended and the LS
is not accepted. Every block that the clause does not list as touched stays as `Kept` says. -/
def Obligations.LsAcceptedInSequence : Prop :=
  (∀ (s : State) (t : Nat) (hi lo : Byte) (mark : List Byte),
    s.ctl.st = .run → s.src.lateMark = false → s.src.line = none →
    let i := ((hi ++ lo : BitVec 16).setWidth 12).toNat
    let accepted := s.src.lock == .locked && s.src.frameOpen && decide (i < s.src.height) &&
      s.src.raster.all (fun p => decide (p < i))
    let window := decide (s.cfg.top ≤ i) && decide (i < s.cfg.top + s.cfg.profile.h)
    let v := s.lq.ring.length
    let takes := window && decide (v < 48)
    let sampled := ((s.lag.take .linesIn).take (.queueOccupancy v)).take (.queueFull v)
    (accepted = true →
      Ends (.lsArrival t [0x02#8, hi, lo]) s fun s' =>
        s'.src.raster = some i ∧ s'.src.frameOpen = true ∧ s'.src.lock = .locked ∧ s'.src.fails = s.src.fails ∧
        s'.src.serial = s.src.serial ∧
        s'.src.line.map (fun l => (l.index, l.claimed, l.count)) = some (i, takes, 0) ∧
        s'.src.gateFrom =
          (if i + 1 = s.src.height then none else if i = 0 then some (s.momentOf t) else s.src.gateFrom) ∧
        (i = 0 → s'.src.running = 0 ∧ s'.src.wrapped = false) ∧
        s'.lq.ring = (if takes then
          s.lq.ring ++ [{ phase := .filling, serial := s.src.serial, row := i - s.cfg.top, pixels := [], passed := false }]
          else s.lq.ring) ∧
        s'.lq.overrun = (if window && !takes then true else s.lq.overrun) ∧
        s'.lag.counts = (if window && !takes then sampled.take .linesDropped else sampled).counts ∧
        s'.lq.outPtr = s.lq.outPtr ∧ s'.lq.writer = s.lq.writer ∧ s'.lq.staging = s.lq.staging ∧ Kept [.src, .lq] s s') ∧
    (accepted = false → Gives (.lsArrival t [0x02#8, hi, lo]) s { s with now := s.momentOf t }) ∧
    (mark.head? = some 0x02#8 → mark.length ≠ 3 → Gives (.lsArrival t mark) s { s with now := s.momentOf t })) ∧
  (∀ (s : State) (t : Nat) (hi lo : Byte) (l : LineIn),
    s.ctl.st = .run → s.src.lateMark = false → s.src.lock = .locked → s.src.frameOpen = true → s.src.line = some l →
    s.queueFits = true →
    let i := ((hi ++ lo : BitVec 16).setWidth 12).toNat
    let lost := decide (8 ≤ s.src.fails + 1)
    let ends := lost || l.index + 1 == s.src.height
    let accepted := !ends && decide (i < s.src.height) && s.src.raster.all (fun p => decide (p < i))
    let ring := if l.claimed then s.lq.ring.dropLast else s.lq.ring
    let window := decide (s.cfg.top ≤ i) && decide (i < s.cfg.top + s.cfg.profile.h)
    let takes := accepted && window && decide (ring.length < 48)
    let failed := s.lag.take .linesBad
    let sampled := ((failed.take .linesIn).take (.queueOccupancy ring.length)).take (.queueFull ring.length)
    Ends (.lsArrival t [0x02#8, hi, lo]) s fun s' =>
      s'.src.fails = s.src.fails + 1 ∧ s'.src.lock = (if lost then .search else .locked) ∧ s'.src.frameOpen = !ends ∧
      s'.src.raster = (if accepted then some i else s.src.raster) ∧
      s'.src.line.map (fun l => (l.index, l.claimed, l.count)) = (if accepted then some (i, takes, 0) else none) ∧
      s'.lq.ring = (if takes then
        ring ++ [{ phase := .filling, serial := s.src.serial, row := i - s.cfg.top, pixels := [], passed := false }]
        else ring) ∧
      (lost = true → s'.port.flags.getLsbD 7 = true) ∧
      (lost = false → s'.lag.counts =
        (if !accepted then failed else if window && !takes then sampled.take .linesDropped else sampled).counts) ∧
      s'.lq.outPtr = s.lq.outPtr ∧ s'.grp.epoch = s.grp.epoch ∧ Kept [.src, .lq, .scan, .grp, .ctl] s s')

/-- A line's check evaluated (R2, R7, R12, R15, R21, R25, R28, R49). A pass needs equal checks and width × 3 payload bytes:
the failure count returns to 0 and the claimed slot becomes WAITING with PASS, black to its full width. A failure counts, as
LINES_BAD too, and frees the slot; the eighth loses the lock, with SOURCE_LOST set. The line at index height − 1 ends the
frame either way: the waiting frame of its serial is marked ended (R49), and where the tile window reaches beyond the
picture the fill begins (R21). At the eighth, LINES_BAD is counted before the event of the lock loss, the model's order (log
41). Every block that the clause does not list as touched stays as `Kept` says. -/
def Obligations.LineCheckJudged : Prop :=
  ∀ (s : State) (t : Nat) (check : BitVec 16) (l : LineIn),
    s.ctl.st = .run → s.src.lock = .locked → s.src.frameOpen = true → s.src.line = some l → s.queueFits = true →
    let pass := l.crc == check && l.count == s.src.width * 3
    let lost := !pass && decide (8 ≤ s.src.fails + 1)
    let ends := lost || l.index + 1 == s.src.height
    Ends (.lineCheckEnd t check) s fun s' =>
      s'.src.line = none ∧ s'.src.fails = (if pass then 0 else s.src.fails + 1) ∧
      s'.src.lock = (if lost then .search else .locked) ∧ (lost = true → s'.port.flags.getLsbD 7 = true) ∧
      s'.src.frameOpen = !ends ∧ (l.claimed = false → s'.lq.ring = s.lq.ring) ∧
      s'.scan.waiting = (if ends then s.scan.waiting.map fun w => { w with ended := w.ended || w.serial == s.src.serial }
        else s.scan.waiting) ∧
      s'.src.fill = (if lost then none else if !ends then s.src.fill
        else if s.src.height < s.cfg.top + s.cfg.profile.h then
          some { row := s.src.height - s.cfg.top, serial := s.src.serial, held := false } else none) ∧
      (lost = false → s'.lag.counts = (if pass then s.lag else s.lag.take .linesBad).counts) ∧
      (lost = true → s.lag.c0.select = 2 → s'.lag.c0 = s.lag.c0.take s.lag.frozen .linesBad) ∧
      (l.claimed = true → pass = true →
        s'.lq.ring = mapNewest (fun a =>
          { a with
            phase := .waiting, passed := true
            pixels := a.pixels ++ List.replicate (s.cfg.profile.w - a.pixels.length) Pixel.black }) s.lq.ring) ∧
      (l.claimed = true → pass = false → s'.lq.ring = s.lq.ring.dropLast) ∧ s'.lq.outPtr = s.lq.outPtr ∧
      s'.src.raster = s.src.raster ∧ s'.src.serial = s.src.serial ∧ s'.grp.epoch = s.grp.epoch ∧
      s'.scan.prog = s.scan.prog ∧ s'.ctl.st = s.ctl.st ∧ s'.ctl = { s.ctl with silentFrom := s'.ctl.silentFrom } ∧
      Kept [.src, .lq, .scan, .grp, .ctl] s s'

/-- The silence timer's 200 ms (R3, R8, R9, R12, R17, R21, R28): the lock state becomes SILENT, its run time starts, and the
timer stops. Out of LOCKED it is a lock loss: the open frame ends, the gate and the fill stop, the FILLING slot is freed,
SOURCE_LOST is set. Every block that the clause does not list as touched stays as `Kept` says. -/
def Obligations.SilenceBecomesSilent : Prop :=
  ∀ (s : State) (t : Nat), s.ctl.st = .run → s.src.lock ≠ .silent →
    passed s.src.silenceFrom (200 * ms) (s.momentOf t) = true →
    Ends (.silenceTimerExpiry t) s fun s' =>
      s'.src.lock = .silent ∧ s'.ctl.silentFrom = some (s.momentOf t) ∧ s'.src.silenceFrom = none ∧
      s'.src.gateFrom = none ∧ s'.src.fill = none ∧ s'.src.line = none ∧ s'.src.width = s.src.width ∧
      s'.src.height = s.src.height ∧ s'.src.serial = s.src.serial ∧ s'.src.inUse = s.src.inUse ∧
      s'.src.raster = s.src.raster ∧ s'.src.fails = s.src.fails ∧
      (s.src.lock = .locked →
        s'.src.frameOpen = false ∧ s'.port.flags.getLsbD 7 = true ∧
        s'.lq.ring = (if s.lq.fillingNewest then s.lq.ring.dropLast else s.lq.ring)) ∧
      (s.src.lock ≠ .locked → s'.lq = s.lq ∧ s'.port = s.port) ∧ s'.lq.outPtr = s.lq.outPtr ∧
      s'.grp.epoch = s.grp.epoch ∧ s'.ctl.st = .run ∧ Kept [.src, .lq, .scan, .grp, .ctl] s s'

/-- The close of the gate 1,024 µs after it opened (R18): the last result and the count in use by the table, and a changed
count in use recomputes the own lead. The own lead (R55) is the smaller of H and the raw lead plus the margin, the raw lead
being H × (1,024,000 − p × c) / 1,024,000 rounded up, 0 from p × c = 1,024,000 on; with no valid count it is H. Every block
that the clause does not list as touched stays as `Kept` says. -/
def Obligations.GateCloseAndOwnLead : Prop :=
  (∀ (s : State) (t : Nat),
    passed s.src.gateFrom (1024 * us) (s.momentOf t) = true →
    let c := s.src.running
    let changes := !s.src.wrapped && decide (16 ≤ c) &&
      s.src.inUse.all (fun u => decide (u + 1 < c) || decide (c + 1 < u))
    Ends (.lineRateGateClose t) s fun s' =>
      s'.src.gateFrom = none ∧
      s'.src.result = (if s.src.wrapped = true then .wrapped else if c < 16 then .low
        else if changes then .changed else .kept) ∧
      s'.src.inUse = (if changes then some c else s.src.inUse) ∧
      s'.scan.ownLead = (if changes
        then ownLeadOf s.cfg.profile.h s.scan.active.period s.scan.margin (some c) else s.scan.ownLead) ∧
      s'.src.lock = s.src.lock ∧ s'.src.running = c ∧ s'.src.frameOpen = s.src.frameOpen ∧ s'.grp.epoch = s.grp.epoch ∧
      Kept [.src, .scan, .grp] s s') ∧
  ((∀ h p m : Nat, ownLeadOf h p m none = h) ∧
  (∀ h p m c : Nat, 1024000 ≤ p * c → ownLeadOf h p m (some c) = min h m) ∧
  (∀ h p m c : Nat, p * c < 1024000 →
    ∃ raw : Nat, h * (1024000 - p * c) ≤ raw * 1024000 ∧ raw * 1024000 < h * (1024000 - p * c) + 1024000 ∧
      ownLeadOf h p m (some c) = min h (raw + m)))

/-- A fill line (R21, R30): W black pixels of the frame's serial enter the queue as WAITING with PASS, and the fill goes on
to the next row or ends after row H − 1. With 48 slots taken the filter holds the row. Every block that the clause does not
list as touched stays as `Kept` says. -/
def Obligations.FillLineQueued : Prop :=
  ∀ (s : State) (t : Nat) (f : Fill), s.ctl.st = .run → s.src.fill = some f →
    (s.lq.ring.length < 48 →
      Ends (.fillLine t) s fun s' =>
        s'.lq.ring = s.lq.ring ++ [{ phase := .waiting, serial := f.serial, row := f.row
                                     pixels := List.replicate s.cfg.profile.w Pixel.black, passed := true }] ∧
        s'.src = { s.src with
          fill := if f.row + 1 < s.cfg.profile.h then some { f with row := f.row + 1, held := false } else none } ∧
        s'.lq.outPtr = s.lq.outPtr ∧ s'.lq.overrun = s.lq.overrun ∧ s'.lq.staging = s.lq.staging ∧ s'.lag = s.lag ∧
        s'.port = s.port ∧ Kept [.src, .lq] s s') ∧
    (48 ≤ s.lq.ring.length →
      Gives (.fillLine t) s
        { s with now := s.momentOf t, src := { s.src with fill := some { f with held := true } } })

/-! ### Tile writer and tile memory -/

/-- The take and the end of the copy (R33, R34, R35): a WAITING head becomes WRITING exactly where the guard allows, that is
with no scan, the scan's own serial, or a row the scan has shown; else the writer is HELD. The copy stages the head's
pixels, and the guard decides between TRANSFER, for the commit, and STAGED; a commit that the guard refuses, a scan having
started since, leaves the writer STAGED too. A commit (R30, R35, R40), where the guard allows: the staged row becomes row
r's content, its entry takes the line's serial with STALE clear, the head slot becomes FREE, a held fill line takes the
freed slot, and the out-pointer moves on, 47 wrapping to 0. Every other row is unchanged. That the take and the commit are
the part's own steps after the decision is the model's choice (log 26). Every block that the clause does not list as touched
stays as `Kept` says. -/
def Obligations.WriterMovesRows : Prop :=
  (∀ (s : State) (t : Nat) (a : Slot) (rest : List Slot), s.lq.ring = a :: rest →
    let allows := s.scan.prog.all (fun p => a.serial == p.serial || decide (a.row < p.q))
    (a.phase = .waiting → (s.lq.writer = .idle ∨ s.lq.writer = .held) →
      Gives (.writerTake t) s
        { s with
          now := s.momentOf t
          lq := if allows then { s.lq with ring := { a with phase := .writing } :: rest, writer := .transfer }
            else { s.lq with writer := .held } }) ∧
    (s.lq.writer = .transfer → s.lq.staging = none →
      Gives (.transferComplete t) s
        { s with
          now := s.momentOf t
          lq := { s.lq with staging := some a.pixels, writer := if allows then .transfer else .staged } }) ∧
    (a.phase = .writing → s.lq.staging.isSome = true → allows = false →
      Gives (.writerCommit t) s { s with now := s.momentOf t, lq := { s.lq with writer := .staged } })) ∧
  (∀ (s : State) (t : Nat) (a : Slot) (rest : List Slot) (px : List Pixel) (f : Fill), s.lq.ring = a :: rest → a.phase = .writing →
    s.lq.staging = some px → s.scan.prog.all (fun p => a.serial == p.serial || decide (a.row < p.q)) = true →
    s.tablesWf = true →
    Ends (.writerCommit t) s fun s' =>
      s'.rowOf a.row = (some px, { serial := some a.serial, stale := false }) ∧
      (∀ r, r ≠ a.row → s'.rowOf r = s.rowOf r) ∧ s'.lq.outPtr = (s.lq.outPtr + 1) % 48 ∧ s'.lq.staging = none ∧
      s'.lq.overrun = s.lq.overrun ∧
      (s.src.fill.any (·.held) = false →
        s'.lq.ring = rest ∧ s'.src = s.src) ∧
      (s.src.fill = some f → f.held = true → rest.length < 48 →
        s'.lq.ring = rest ++ [{ phase := .waiting, serial := f.serial, row := f.row
                                pixels := List.replicate s.cfg.profile.w Pixel.black, passed := true }] ∧
        s'.src = { s.src with
          fill := if f.row + 1 < s.cfg.profile.h then some { f with row := f.row + 1, held := false } else none }) ∧
      s'.lag = s.lag ∧ s'.port = s.port ∧ s'.bus.engine = s.bus.engine ∧ Kept [.src, .lq, .mem] s s')

/-! ### Panel scan -/

/-- An idle pass and the strobe (R44, R65, R66, R159, R162): an idle-pass start copies the shadow set, schedules the pulse
and latches the pair; a pulse begins at its start and ends after the active width. Nothing else changes. The overlay (R159
to R161): its letter by the station's standing, HALTED first; where it is drawn, the box of 240 by 160 pixels at the middle
of the panel shows the digit and the letter at 8 times scale, white on black, 16 pixels of border and gap, and every pixel
outside the box is the picture's; where it is not drawn, the row is the picture's. Which positions of a glyph are lit within
its inner 10 by 14 is the part's own table (log 8). -/
def Obligations.IdlePassAndStrobe : Prop :=
  (∀ (s : State) (t a : Nat),
    let n := s.momentOf t
    ((s.ctl.st = .halted ∨ (s.ctl.st = .run ∧ s.scan.lastStart = none)) →
      s.scan.idlePass.all (fun b => decide (b + s.cfg.profile.h * s.scan.active.period ≤ n)) = true →
      Gives (.idlePassStart t) s
        { s with
          now := n
          scan := { s.scan with active := s.scan.shadow, strobe := pulseAt n s.scan.shadow, idlePass := some n }
          ovl := { s.ovl with
            latched := (letterOf s.ctl.st s.grp.membership).map fun x => (s.ctl.station, x)
            drawn := s.ctl.st == .halted || (s.grp.membership == .refused || s.grp.membership == .duplicate ||
              decide (n < s.ovl.identifyUntil)) } }) ∧
    (s.scan.strobe = .scheduled a → a ≤ n →
      Gives (.strobePulseStart t) s
        { s with now := n, scan := { s.scan with strobe := .on (a + s.scan.active.strobe * 1000) } }) ∧
    (s.scan.strobe = .on a → a ≤ n →
      Gives (.strobePulseEnd t) s { s with now := n, scan := { s.scan with strobe := .off } })) ∧
  (∀ (st : StationState) (m : Membership) (d : StationNo) (x : Letter) (o : Ovl) (w h row col : Nat) (px : List Pixel),
    letterOf .halted m = some .c ∧
    (st ≠ .halted → letterOf st .member = some .m ∧ letterOf st .listener = some .l ∧ letterOf st .joining = some .j ∧
      letterOf st .listening = some .j ∧ letterOf st .alone = some .a ∧ letterOf st .refused = some .r ∧
      letterOf st .duplicate = some .d) ∧
    (Letter.glyph .m = 18 ∧ Letter.glyph .l = 17 ∧ Letter.glyph .j = 16 ∧ Letter.glyph .a = 10 ∧
      Letter.glyph .r = 19 ∧ Letter.glyph .d = 13 ∧ Letter.glyph .c = 12) ∧
    (o.drawn = false ∨ o.latched = none → overlayRow o w h row px = px) ∧
    (o.drawn = true → o.latched = some (d, x) →
      let left := ((w : Int) - 240).fdiv 2
      let top := ((h : Int) - 160).fdiv 2
      let i := ((col : Int) - left).toNat
      let j := ((row : Int) - top).toNat
      let inside := left ≤ col ∧ (col : Int) < left + 240 ∧ top ≤ row ∧ (row : Int) < top + 160
      let lit (glyph k : Nat) : Bool :=
        decide (8 ≤ k) && decide (k < 88) && decide (24 ≤ j) && decide (j < 136) &&
          Config.glyphLit glyph (k / 8) ((j - 16) / 8)
      let white := (decide (16 ≤ i) && decide (i < 112) && lit d.toNat (i - 16)) ||
        (decide (128 ≤ i) && decide (i < 224) && lit x.glyph (i - 128))
      (overlayRow o w h row px).length = px.length ∧
      (¬ inside → (overlayRow o w h row px)[col]? = px[col]?) ∧
      (inside → col < px.length →
        (overlayRow o w h row px)[col]? = some (if white then 0xFFFFFF#24 else 0x000000#24))))

/-- A new-frame scan starts at its conditions (R50 to R53, R65, R67), and what it does: the frame's serial is scanned and
shown, the lag is measured and counted, a copied row of another serial waits STAGED (R35), and MIN_PERIOD_WAITS is raised
when the period was the last condition missing (log 12), before FRAMES_SHOWN, which is the model's order (log 41); both are
stated where the own hold limit stays as it is. No new-frame scan starts while a condition of R50 fails or a repeat is owed
(R63): the command then changes nothing (log 4). Every block that the clause does not list as touched stays as `Kept` says.
-/
def Obligations.NewFrameScanStarts : Prop :=
  (∀ (s : State) (t : Nat) (w : Waiting),
    s.mayScan = true → s.scan.st = .wait → s.scan.waiting = some w → s.periodOver (s.momentOf t) = true →
    s.rasterReached w = true → s.scan.owed = false →
    let n := s.momentOf t
    let lag := min 16777215 ((n - w.admittedAt) / 100)
    Ends (.newFrameScanStart t) s fun s' =>
      s'.scan = { s.scan.begun n s.ownHold .scan w.serial with
        shown := some w.serial, waiting := none, lastLag := BitVec.ofNat 24 lag } ∧
      ScanFrame s s' ∧
      (s.lq.ring.head?.any (fun a => a.phase == .writing && s.lq.staging.isSome && a.serial != w.serial) = true →
        s'.lq.writer = .staged) ∧ s'.grp.epoch = s.grp.epoch ∧ s'.grp.admMark = s.grp.admMark ∧ s'.grp.peers = s.grp.peers ∧
      s'.ovl.drawn = (s.grp.membership == .refused || s.grp.membership == .duplicate || decide (n < s.ovl.identifyUntil)) ∧
      (s.scan.holdInUse = s.ownHold → s.judged.period = false →
        s'.lag.counts = (s.lag.take (.framesShown lag)).counts) ∧
      (s.scan.holdInUse = s.ownHold → s.judged.period = true →
        s'.lag.counts = ((s.lag.take .minPeriodWaits).take (.framesShown lag)).counts) ∧
      Kept [.lq, .scan, .bus, .grp, .ovl] s s') ∧
  (∀ (s : State) (t : Nat),
    (s.mayScan && s.scan.st == .wait && s.periodOver (s.momentOf t) && !s.scan.owed && s.scan.waiting.any s.rasterReached) = false →
    Gives (.newFrameScanStart t) s { s with now := s.momentOf t })

/-- The three repeat scans of the station's own (R61 to R64): the owed repeat when the minimum frame period has passed, the
group-of-one repeat at the hold in use less 300 µs, the private repeat at the hold in use less 20 µs. Each scans the shown
serial, keeps the waiting frame and the lag, and moves the epoch as its row of R59 gives; the private repeat of a MEMBER is
a step slip, whose change of OUT_OF_STEP queues a STATUS, also where the increment has just cleared it (R121, R132). The
owed repeat counts MIN_PERIOD_WAITS before REPEATS, the model's order (log 41), stated where the own hold limit stays as it
is. The REPEAT of a MEMBER at the group hold less 300 µs (R59, R60): it is queued as NEW with the epoch, and the REPEAT mark
set, also while a decided supply departure bars scan starts (R141). Nothing else changes. The scans of the group of one and
of the private repeat are barred then, and the command changes nothing: the model's choice (log 35). Every block that the
clause does not list as touched stays as `Kept` says. -/
def Obligations.RepeatScansStart : Prop :=
  (∀ (s : State) (t : Nat) (x : Serial) (a : Nat), s.repeatable = true → s.scan.shown = some x → s.scan.lastStart = some a →
    let n := s.momentOf t
    let m := s.grp.membership
    let hold := s.scan.holdInUse * 10000
    (s.scan.owed = true → s.periodOver n = true →
      Ends (.repeatScanStart t) s fun s' =>
        s'.scan = s.scan.begun n s.ownHold .rescan x ∧ ScanFrame s s' ∧ s'.grp.epoch = s.grp.epoch ∧
        (s.scan.holdInUse = s.ownHold → s'.lag.counts = ((s.lag.take .minPeriodWaits).take .repeats).counts) ∧
        Kept [.lq, .scan, .bus, .grp, .ovl] s s') ∧
    (m.groupOfOne = true → a + (hold - 300000) ≤ n →
      Ends (.groupOfOneRepeat t) s fun s' =>
        s'.scan = s.scan.begun n s.ownHold .rescan x ∧ ScanFrame s s' ∧ s'.grp.epoch = s.grp.epoch + 1 ∧
        s'.grp.admMark = none ∧ s'.lq.overrun = false ∧ Kept [.lq, .scan, .bus, .grp, .ovl, .lag] s s') ∧
    (a + (hold - 20000) ≤ n →
      Ends (.privateRepeat t) s fun s' =>
        s'.scan = s.scan.begun n s.ownHold .rescan x ∧ ScanFrame s s' ∧
        s'.grp.epoch = (if m = .listener then s.grp.epoch else s.grp.epoch + 1) ∧
        s'.grp.admMark = (if m = .listener then s.grp.admMark else none) ∧
        (m = .member → s'.grp.outOfStep = true ∧ s'.grp.cleanEpochs = 0 ∧
          (s.lag.runsFree = true → s.lag.c0.select = 15 → s'.lag.c0.value = s.lag.c0.value + 1) ∧
          ((s.grp.outOfStep = false ∨ 15 ≤ s.grp.cleanEpochs) → s'.bus.q.status =
            some { payload := beBytes 4 s'.ownAnnouncement.encode.toNat, fails := 0, epoch := none })) ∧
        Kept [.lq, .scan, .bus, .grp, .ovl, .lag] s s')) ∧
  (∀ (s : State) (t a : Nat), s.ctl.st = .run → (s.scan.st = .hold ∨ s.scan.st = .wait) → s.scan.lastStart = some a →
    let u := { s with now := s.momentOf t }
    (s.grp.membership = .member → s.scan.repeatMark = false →
      a + (s.grp.groupHold * 10000 - 300000) ≤ s.momentOf t →
      Gives (.repeatDeadline t) s
        { u with
          scan := { s.scan with repeatMark := true }
          bus := { s.bus with
            q := { s.bus.q with rep := some { payload := [], fails := 0, epoch := some s.grp.epoch } } } }) ∧
    (s.ctl.departure.any (·.decided) = true → Gives (.groupOfOneRepeat t) s u ∧ Gives (.privateRepeat t) s u))

/-- The read of row q (R37, R38, R39, R46, R54, R161): the panel gets the row's pixels, or black while its entry is NONE,
through the overlay; the position moves on; in a new-frame scan another serial is an overtake, which marks the row STALE and
counts. Every other row and the pixels stay. Every block that the clause does not list as touched stays as `Kept` says. -/
def Obligations.RowIsRead : Prop :=
  ∀ (s : State) (t a : Nat) (p : Prog), s.tablesWf = true → s.scan.prog = some p → p.q < s.cfg.profile.h →
    s.scan.lastStart = some a → a + p.q * s.scan.active.period ≤ s.momentOf t →
    let e := s.mem.entry p.q
    let overtaken := s.scan.st == .scan && e.serial != some p.serial
    Ends (.scanRowRead t) s fun s' =>
      s'.scan.prog = some { p with q := p.q + 1 } ∧
      (e.serial = none →
        s'.scan.lastRow = some (p.q, s.shownRow p.q (List.replicate s.cfg.profile.w Pixel.black))) ∧
      (∀ px ∈ (Sparse.get s.mem.tile p.q).toList, e.serial.isSome = true →
        s'.scan.lastRow = some (p.q, s.shownRow p.q px)) ∧
      s'.mem.entry p.q = { e with stale := e.stale || overtaken } ∧
      s'.mem.staleCount = s.mem.staleCount + (if overtaken && !e.stale then 1 else 0) ∧
      (∀ r, r ≠ p.q → s'.mem.entry r = s.mem.entry r) ∧ s'.mem.tile = s.mem.tile ∧
      s'.scan.overtake = (s.scan.overtake || overtaken) ∧ s'.scan.st = s.scan.st ∧ s'.scan.shown = s.scan.shown ∧
      s'.scan.margin = s.scan.margin ∧ s'.scan.lastStart = s.scan.lastStart ∧ s'.scan.waiting = s.scan.waiting ∧
      s'.lag.counts = (if overtaken then s.lag.take .rowsStale else s.lag).counts ∧ s'.lq.ring = s.lq.ring ∧
      s'.lq.staging = s.lq.staging ∧ Kept [.lq, .mem, .scan] s s'

/-- The end of a scan, D after its start (R46, R47, R55 to R57): WAIT or HOLD; a new-frame scan moves the margin and the
clean-run count and recomputes the own lead, a repeat scan moves neither. With the standby-pending mark set the station then
enters STANDBY, the group values kept after a repeat scan, which moves no lead (R22, R29, R45, R47, R136, R143). Every block
that the clause does not list as touched stays as `Kept` says. -/
def Obligations.ScanEnds : Prop :=
  ∀ (s : State) (t a : Nat) (p : Prog), s.scan.prog = some p → s.scan.lastStart = some a →
    a + s.cfg.profile.h * s.scan.active.period ≤ s.momentOf t →
    let fresh := s.scan.st == .scan
    let full := decide (240 ≤ s.scan.cleanRun + 1)
    let margin :=
      if !fresh then s.scan.margin
      else if s.scan.overtake then min 32 (s.scan.margin + 2)
      else if full && decide (s.cfg.marginBase < s.scan.margin) then s.scan.margin - 1 else s.scan.margin
    let ended : Scan := { s.scan with
      prog := none, st := if s.scan.waiting.isSome then .wait else .hold, margin := margin
      cleanRun := if !fresh then s.scan.cleanRun else if s.scan.overtake || full then 0 else s.scan.cleanRun + 1
      ownLead := if fresh then ownLeadOf s.cfg.profile.h s.scan.active.period margin s.src.inUse else s.scan.ownLead }
    (s.ctl.standbyPending = false →
      Ends (.scanEnd t) s fun s' =>
        s'.scan = ended ∧ s'.lq.ring = s.lq.ring ∧ s'.lq.staging = s.lq.staging ∧ s'.grp.epoch = s.grp.epoch ∧
        s'.grp.membership = s.grp.membership ∧ Kept [.lq, .scan, .grp] s s') ∧
    (s.ctl.standbyPending = true → s.intakeFits = true → s.ctl.st = .run →
      Ends (.scanEnd t) s fun s' =>
        s'.ctl.st = .standby ∧ s'.ctl.standbyPending = false ∧ s'.scan = ended.quiet ∧ s'.src.lock = .silent ∧
        s'.src.frameOpen = false ∧ s'.src.silenceFrom = none ∧ s'.src.line = none ∧ s'.src.fill = none ∧
        s'.src.gateFrom = none ∧ s'.lq = Lq.reset ∧ s'.bus.q.rep = none ∧
        s'.ctl.silentFrom = (if s.src.lock = .silent then s.ctl.silentFrom else some (s.momentOf t)) ∧
        s'.grp.membership = s.grp.membership ∧ s'.grp.peers = s.grp.peers ∧ s'.grp.epoch = s.grp.epoch ∧
        (fresh = false → s'.grp.groupLead = s.grp.groupLead ∧ s'.grp.groupHold = s.grp.groupHold) ∧
        Kept [.src, .lq, .scan, .bus, .grp, .ctl] s s')

/-- The minimum frame period passes while the wait since the last scan start is still to be judged (R52, R63; log 12): an
owed repeat starts first, else the waiting frame whose conditions hold, each with MIN_PERIOD_WAITS, counted before REPEATS
or FRAMES_SHOWN, which is the model's order (log 41), stated where the own hold limit stays as it is; else only the wait is
over. Every block that the clause does not list as touched stays as `Kept` says. -/
def Obligations.MinPeriodPasses : Prop :=
  ∀ (s : State) (t : Nat) (x : Serial) (w : Waiting),
    s.ctl.st = .run → s.judged.period = true → s.scan.prog = none → s.scan.lastStart.isSome = true →
    s.periodOver (s.momentOf t) = true → s.scan.shown = some x →
    let n := s.momentOf t
    (s.repeatable = true → s.scan.owed = true →
      Ends (.minPeriodExpiry t) s fun s' =>
        s'.scan = s.scan.begun n s.ownHold .rescan x ∧ ScanFrame s s' ∧ s'.grp.epoch = s.grp.epoch ∧
        (s.scan.holdInUse = s.ownHold → s'.lag.counts = ((s.lag.take .minPeriodWaits).take .repeats).counts) ∧
        Kept [.lq, .scan, .bus, .grp, .ovl] s s') ∧
    (s.mayScan = true → s.scan.owed = false → s.scan.st = .wait → s.scan.waiting = some w → s.rasterReached w = true →
      let lag := min 16777215 ((n - w.admittedAt) / 100)
      Ends (.minPeriodExpiry t) s fun s' =>
        s'.scan = { s.scan.begun n s.ownHold .scan w.serial with
          shown := some w.serial, waiting := none, lastLag := BitVec.ofNat 24 lag } ∧
        ScanFrame s s' ∧ s'.grp.epoch = s.grp.epoch ∧
        (s.scan.holdInUse = s.ownHold →
          s'.lag.counts = ((s.lag.take .minPeriodWaits).take (.framesShown lag)).counts) ∧
        Kept [.lq, .scan, .bus, .grp, .ovl] s s') ∧
    ((s.scan.owed && s.repeatable) = false →
      (s.mayScan && !s.scan.owed && s.scan.st == .wait && s.scan.waiting.any s.rasterReached) = false →
      Gives (.minPeriodExpiry t) s { s with now := n } ∧
      Ends (.minPeriodExpiry t) s fun s' => s'.judged.period = false)

/-! ### The cadence bus -/

/-- The notices that the spec works out, bit for bit (R72 to R74): the REPEATs of stations 2 and 7 at epoch 100, start,
kind, station, epoch, length, stuff bit, check, with their checks 0x3E and 0x38. Stuffing (R73): a receiver that removes the
stuff bits has the bits that were sent; no six bits in a row are equal; at most one bit is stuffed for each four bits after
the first. -/
def Obligations.NoticeBitsStuffed : Prop :=
  (crc8 (coveredBits 1 2 100#8 []) = 0x3E#8 ∧ crc8 (coveredBits 1 7 100#8 []) = 0x38#8 ∧
  noticeBits 1 2 100#8 [] = bitsFrom "0 0001 0010 01100100 000 1 0011111 0 0" ∧
  noticeBits 1 7 100#8 [] = bitsFrom "0 0001 0111 01100100 000 1 00111000") ∧
  (∀ bits : List Bool,
    unstuffFrom true 0 (stuff bits) = bits ∧
    (∀ (k : Nat) (b : Bool), ((stuff bits).drop k).take 6 ≠ List.replicate 6 b) ∧
    (stuff bits).length ≤ bits.length + (bits.length - 1) / 4)

/-- An attempt starts at idle (R75, R82, R83, R86): the notice of the lowest code moves from its slot into the register; its
start bit fixes the epoch field, held or present, and the stuffed range; a WAKE starts with its preamble instead, and its
start bit comes with the gap's end 276 µs later. Waiting stations start in the same bit, so it does so whether another's
dominant bit is read or not. The station's epoch at a start bit is noted (R134), and the stuck-bus run starts anew (R90, log
11). Nothing else changes but that a COUNT's outcome is SENT (R175). No attempt starts in a state where the driver may not
drive, under a hold-off, off idle, with a notice in the register or an empty queue (R70, R75, R87): without a dominant bit
from elsewhere the command changes nothing (log 4). Such a bit (R69, R71, R90, R134; log 9) makes an engine in IDLE receive,
with the station's epoch noted and the runs started anew; in WAIT_IDLE and LOST it sets the idle count to 0 and starts the
runs anew; else it changes nothing. -/
def Obligations.AttemptStarts : Prop :=
  (∀ (s : State) (t : Nat) (heard : Bool) (k : Kind) (n : Queued) (r : TxReg),
    let now := s.momentOf t
    let e := n.epoch.getD s.grp.epoch
    (s.bus.engine = .idle → s.driverEnabled = true → s.bus.holdoff = none → s.bus.reg = none → s.bus.q.get k = some n →
      Kind.all.all (fun j => decide (k.code ≤ j.code) || (s.bus.q.get j).isNone) = true →
      (k ≠ .wake →
        Gives (.noticeAttemptStart ⟨t, heard⟩) s
          { s with
            now := now
            bus := { s.bus with
              engine := .sending, idleCount := 0, q := s.bus.q.set k none, runFrom := some now, startEpoch := s.grp.epoch
              reg := some { kind := k, notice := n, epoch := e, withdrawn := false, startedAt := now,
                            bits := noticeBits k.code s.ctl.station.toNat e n.payload } }
            lag := if k = .count then { s.lag with outcome := .sent } else s.lag }) ∧
      (k = .wake →
        Gives (.noticeAttemptStart ⟨t, heard⟩) s
          { s with
            now := now
            bus := { s.bus with
              engine := .wakeSend, idleCount := 0, q := s.bus.q.set k none, runFrom := some now
              reg := some { kind := k, notice := n, epoch := s.grp.epoch, withdrawn := false, startedAt := now,
                            bits := [] } } })) ∧
    (s.bus.engine = .wakeSend → s.bus.reg = some r → r.kind = .wake → r.notice = n → r.startedAt + 276000 ≤ now →
      Gives (.wakeGapEnd t) s
        { s with
          now := now
          bus := { s.bus with
            engine := .sending, idleCount := 0, runFrom := some now, startEpoch := s.grp.epoch
            reg := some { r with
              epoch := e, startedAt := now, bits := noticeBits 6 s.ctl.station.toNat e n.payload } } })) ∧
  (∀ (s : State) (t : Nat),
    (s.bus.engine ≠ .idle ∨ s.driverEnabled = false ∨ s.bus.holdoff.isSome = true ∨ s.bus.reg.isSome = true ∨
      Kind.all.all (fun j => (s.bus.q.get j).isNone) = true) →
    let n := s.momentOf t
    Gives (.noticeAttemptStart ⟨t, false⟩) s { s with now := n } ∧
    (s.bus.engine = .idle →
      Gives (.noticeAttemptStart ⟨t, true⟩) s
        { s with
          now := n
          bus := { s.bus with
            engine := .receiving, idleCount := 0, startEpoch := s.grp.epoch, runFrom := some n
            recessiveFrom := some (n + s.bus.bitTime) } }) ∧
    ((s.bus.engine = .waitIdle ∨ s.bus.engine = .lost) →
      Gives (.noticeAttemptStart ⟨t, true⟩) s
        { s with now := n, bus := { s.bus with
          idleCount := 0, runFrom := some n, recessiveFrom := some (n + s.bus.bitTime) } }) ∧
    ((s.bus.engine = .off ∨ s.bus.engine = .sending ∨ s.bus.engine = .receiving ∨ s.bus.engine = .wakeSend) →
      Gives (.noticeAttemptStart ⟨t, true⟩) s { s with now := n }))

/-- Giving way (R76, R83, R84, R86): a loss up to the end of the station field leaves the engine RECEIVING, and a dominant
read in a preamble leaves it in WAIT_IDLE; ARB_LOSSES is counted, the register is empty, the stuck-bus run starts with the
dominant bit (R90, log 11), and the notice is back in its slot as it was unless it was withdrawn or a newer one waits. R76
and R77 do not say where a stuff bit that directly follows the station field belongs; that a loss at it counts as within the
field, as the bound of the first clause has it, is the model's choice (log 36). Every block that the clause does not list as
touched stays as `Kept` says. -/
def Obligations.ArbitrationGivesWay : Prop :=
  ∀ (s : State) (t pos : Nat) (r : TxReg), s.bus.reg = some r →
    (s.bus.engine = .sending → r.bits[pos]? = some true → pos < stationFieldEnd r.kind.code s.ctl.station.toNat →
      Ends (.arbitrationLoss t pos) s fun s' =>
        s'.bus.engine = .receiving ∧ s'.bus.idleCount = 0 ∧ s'.bus.reg = none ∧ s'.bus.runFrom = some (s.momentOf t) ∧
        (r.kind.plain = true → s.stopsGroup .arbLosses = false → s'.bus.q.get r.kind = s.slotAfterReturn r r.notice) ∧
        s'.lag.counts = (s.lag.take .arbLosses).counts ∧ Kept [.bus] s s') ∧
    (s.bus.engine = .wakeSend → r.kind = .wake →
      Ends (.preambleInterrupted t) s fun s' =>
        s'.bus.engine = .waitIdle ∧ s'.bus.idleCount = 0 ∧ s'.bus.reg = none ∧ s'.bus.runFrom = some (s.momentOf t) ∧
        s'.bus.q.wake = s.slotAfterReturn r r.notice ∧ s'.lag.counts = (s.lag.take .arbLosses).counts ∧ Kept [.bus] s s')

/-- A failed attempt (R69, R76, R80 to R83): a bit error releases the wire and counts NOTICE_ERRORS, the recessive bits read
up to it counting for idle (log 10); an attempt that runs to its end counts NOTICES_SENT; where its end bits all read
dominant, the stuck-bus run counts from the first, or from the NAK slot (R90, log 11). A REPEAT is dropped; another notice
returns as a RETRY that holds the epoch it was sent with. A third failure, at an attempt's end or by a bit error, drops the
notice with RETRIES_EXHAUSTED, counted last (the model's order, log 37), and its queuer is told (R81): a LEAVE has ended for
its departure (R141); a COUNT is DROPPED (R175), and where a newer one waits the outcome stays, which is deduced (log 29);
in JOINING and MEMBER a STATUS is queued again with the values of the moment (R121); a STANDBY is queued again while its
condition holds (R142); a REFUSE is queued again for the earliest entry still owed one (R105); a WAKE and an IDENT are gone.
A JOIN dropped at its third failure, at an attempt's end or by a bit error, sends a JOINING station back to listen (R81,
R102, R110): LISTENING with a new 64 ms window, its STATUS withdrawn, the refusals due cleared, MEMBERSHIP_CHANGED set.
Every block that the clause does not list as touched stays as `Kept` says. -/
def Obligations.FailedAttempts : Prop :=
  (∀ (s : State) (t pos : Nat) (r : TxReg) (nak : Bool) (ends : BitVec 7),
    s.bus.reg = some r → s.bus.engine = .sending →
    let retry := { r.notice with fails := r.notice.fails + 1, epoch := some r.epoch }
    let returns := decide (r.notice.fails + 1 < 3)
    let run := trailing (List.replicate 9 true ++ r.bits.take pos) + 1
    (r.bits[pos]? = some false → r.kind.plain = true → r.kind ≠ .rep → s.stopsGroup .noticeErrors = false →
      returns = true →
      Ends (.bitError t pos) s fun s' =>
        s'.bus.engine = (if 9 ≤ run then .idle else .waitIdle) ∧ s'.bus.idleCount = min 9 run ∧ s'.bus.reg = none ∧
        s'.bus.q.get r.kind = s.slotAfterReturn r retry ∧
        s'.lag.counts = (s.lag.take .noticeErrors).counts ∧ Kept [.bus] s s') ∧
    (r.bits[pos]? = some false → r.kind = .rep →
      Ends (.bitError t pos) s fun s' =>
        s'.bus.engine = (if 9 ≤ run then .idle else .waitIdle) ∧ s'.bus.reg = none ∧ s'.bus.q.rep = s.bus.q.rep ∧
        s'.lag.counts = (s.lag.take .noticeErrors).counts ∧ Kept [.bus] s s') ∧
    ((ends ≠ 0x7F#7 ∨ (nak = true ∧ r.kind ≠ .rep)) → r.kind.plain = true → r.kind ≠ .rep →
      s.stopsGroup .noticesSent = false → returns = true →
      Ends (.attemptEnd t nak ends) s fun s' =>
        s'.bus.reg = none ∧ s'.bus.q.get r.kind = s.slotAfterReturn r retry ∧
        s'.lag.counts = (s.lag.take .noticesSent).counts ∧ Kept [.bus] s s') ∧
    (ends = 0#7 → 0 < s.bus.bitTime →
      Ends (.attemptEnd t nak ends) s fun s' =>
        s'.bus.engine = .waitIdle ∧ s'.bus.idleCount = 0 ∧
        s'.bus.runFrom = some (max (s.bus.runFrom.getD 0) (s.momentOf t - (if nak then 8 else 7) * s.bus.bitTime))) ∧
    (ends ≠ 0x7F#7 → r.kind = .rep →
      Ends (.attemptEnd t nak ends) s fun s' =>
        s'.bus.reg = none ∧ s'.bus.q.rep = s.bus.q.rep ∧ s'.lag.counts = (s.lag.take .noticesSent).counts ∧
        Kept [.bus] s s')) ∧
  (∀ (s : State) (t pos : Nat) (r : TxReg) (nak : Bool) (ends : BitVec 7) (b : Byte) (i : Instr) (e : Event),
    s.bus.reg = some r → s.bus.engine = .sending → 2 ≤ r.notice.fails → r.kind ≠ .rep → r.kind ≠ .join →
    ((i = .attemptEnd t nak ends ∧ (ends ≠ 0x7F#7 ∨ nak = true) ∧ e = .noticesSent) ∨
      (i = .bitError t pos ∧ r.bits[pos]? = some false ∧ e = .noticeErrors)) →
    let now := { s with now := s.momentOf t }
    let quiet := !s.stopsGroup e && !{ s with lag := s.lag.take e }.stopsGroup .retriesExhausted
    Ends i s fun s' =>
      s'.bus.reg = none ∧ s'.lag.counts = ((s.lag.take e).take .retriesExhausted).counts ∧
      (r.kind = .leave → r.notice.payload = [b] →
        s'.ctl = { s.ctl with departure := s.ctl.departure.map fun d =>
          if b = d.reason.leaveByte then { d with leaveEnded := true } else d } ∧ s'.bus.q.leave = s.bus.q.leave) ∧
      (r.kind = .count → quiet = true →
        s'.lag.outcome = (if s.bus.q.count = none then .dropped else s.lag.outcome) ∧ s'.bus.q.count = s.bus.q.count) ∧
      (r.kind = .status → s.grp.membership.active = true → s'.bus.q.status =
        some { payload := beBytes 4 s.ownAnnouncement.encode.toNat, fails := 0, epoch := none }) ∧
      (r.kind = .status → s.grp.membership.active = false → s'.bus.q.status = s.bus.q.status) ∧
      (r.kind = .standby → now.standbyHolds = true →
        s'.bus.q.standby = some { payload := [], fails := 0, epoch := none }) ∧
      (r.kind = .standby → now.standbyHolds = false → s.judged.standby = false →
        s'.bus.q.standby = s.bus.q.standby) ∧
      (r.kind = .refuse → s.grp.membership.active = true →
        s'.bus.q.refuse.map (·.payload) = (earliestDue (byOrder s.grp.peers)).map fun d => [refuseByte d.1 d.2]) ∧
      ((r.kind = .wake ∨ r.kind = .ident) → s'.bus.q.get r.kind = s.bus.q.get r.kind) ∧ Kept [.bus, .ctl] s s') ∧
  (∀ (s : State) (t : Nat) (r : TxReg) (pos : Nat) (nak : Bool) (ends : BitVec 7) (i : Instr),
    s.bus.reg = some r → s.bus.engine = .sending → r.kind = .join → 2 ≤ r.notice.fails → s.grp.membership = .joining →
    ((i = .attemptEnd t nak ends ∧ (ends ≠ 0x7F#7 ∨ nak = true)) ∨ (i = .bitError t pos ∧ r.bits[pos]? = some false)) →
    Ends i s fun s' =>
      s'.grp.membership = .listening ∧ s'.grp.listenEnd = some (s.momentOf t + 64000000) ∧ s'.grp.ownWindowEnd = none ∧
      s'.bus.q.status = none ∧ s'.bus.q.join = none ∧ s'.bus.q.refuse = none ∧ s'.bus.reg = none ∧
      s'.grp.peers.all (fun e => e.2.due.isNone) = true ∧ s'.port.flags.getLsbD 0 = true ∧ s'.grp.epoch = s.grp.epoch ∧
      Kept [.bus, .grp] s s')

/-- Completions (R81, R102, R105 to R107, R123, R141, R165): NOTICES_SENT is counted, the register is empty, and each queuer
acts: a JOIN starts the own refusal window; a REFUSE removes its target and, as on hearing it, sends a REFUSED station back
to listen; a STATUS becomes the own announcement, for two epochs above its field where that is one or two increments ahead
and at once otherwise; a LEAVE lets the departure go on; a WAKE changes nothing; an IDENT starts identify mode unless
withdrawn. The own COUNT completes (R81, R175 to R177): its outcome is COMPLETED unless a newer COUNT waits, and its action
is taken as one heard: it waits for the epoch two above the field where that is one or two increments ahead, and applies at
once otherwise. NOTICES_SENT is taken before that, which is the model's order (log 37). The own REPEAT completes (R81, R127
to R132), whatever the NAK slot reads: it is judged as one heard, with its own epoch field: taken, re-sequenced or ignored,
a taken one starting or owing the repeat scan. The own STANDBY completes (R143): with no departure pending the station in
RUN enters STANDBY, at once without a scan and at its end otherwise. Every block that the clause does not list as touched
stays as `Kept` says. -/
def Obligations.CompletionsActByKind : Prop :=
  (∀ (s : State) (t : Nat) (r : TxReg) (b : Byte) (a : Ann), s.bus.reg = some r → s.bus.engine = .sending →
    let n := s.momentOf t
    let waits := r.epoch + 2 - s.grp.epoch == 1 || r.epoch + 2 - s.grp.epoch == 2
    (r.kind ≠ .count → s.lag.runsFree = true → s.lag.c0.select = 10 →
      Ends (.attemptEnd t false 0x7F#7) s fun s' =>
        s'.lag.c0.value = s.lag.c0.value + 1 ∧
        Kept [.src, .lq, .scan, .bus, .grp, .ctl, .ovl, .lag] s s') ∧
    (r.kind = .join → s.grp.membership = .joining →
      Ends (.attemptEnd t false 0x7F#7) s fun s' =>
        s'.grp.ownWindowEnd = some (n + 8000000) ∧ s'.grp.membership = .joining ∧
        s'.grp.peers = s.grp.peers ∧ s'.grp.epoch = s.grp.epoch ∧ s'.bus.reg = none ∧ Kept [.bus, .grp] s s') ∧
    (r.kind = .refuse → r.notice.payload = [b] → s.grp.membership.keepsTable = true → s.tablesWf = true →
      Ends (.attemptEnd t false 0x7F#7) s fun s' =>
        s'.peer (b.extractLsb' 4 4).toNat = none ∧
        (∀ n, n ≠ (b.extractLsb' 4 4).toNat → (s'.peer n).isSome = (s.peer n).isSome) ∧
        s'.grp.membership = (if s.grp.membership = .refused then .listening else s.grp.membership) ∧
        (s.grp.membership = .refused → s'.grp.listenEnd = some (n + 64000000)) ∧
        s'.grp.epoch = s.grp.epoch ∧ s'.bus.reg = none ∧ Kept [.bus, .grp] s s') ∧
    (r.kind = .status → r.notice.payload = beBytes 4 a.encode.toNat →
      Ends (.attemptEnd t false 0x7F#7) s fun s' =>
        s'.grp.ownPend = (if waits then some { ann := a, effective := r.epoch + 2 } else none) ∧
        s'.grp.ownInUse = (if waits then s.grp.ownInUse else some a) ∧
        s'.grp.epoch = s.grp.epoch ∧ s'.bus.reg = none ∧ Kept [.bus, .grp] s s') ∧
    (r.kind = .leave → r.notice.payload = [b] →
      Ends (.attemptEnd t false 0x7F#7) s fun s' =>
        s'.ctl = { s.ctl with departure := s.ctl.departure.map fun d =>
          if b = d.reason.leaveByte then { d with leaveEnded := true } else d } ∧
        s'.bus.reg = none ∧ Kept [.bus, .ctl] s s') ∧
    (r.kind = .wake →
      Ends (.attemptEnd t false 0x7F#7) s fun s' =>
        s'.bus.reg = none ∧ s'.bus.q.wake = s.bus.q.wake ∧ s'.lag.counts = (s.lag.take .noticesSent).counts ∧
        Kept [.bus] s s') ∧
    (r.kind = .ident → r.notice.payload = [b] → b ≠ 0 →
      Ends (.attemptEnd t false 0x7F#7) s fun s' =>
        s'.ovl = (if r.withdrawn then s.ovl else { s.ovl with identifyUntil := n + b.toNat * 1000000000 }) ∧
        s'.bus.reg = none ∧ Kept [.bus, .ovl] s s')) ∧
  (∀ (s : State) (t : Nat) (r : TxReg) (a : CountAction), s.bus.reg = some r → s.bus.engine = .sending →
    r.kind = .count → r.notice.payload = [a.byte] → (s.ctl.st = .run ∨ s.ctl.st = .standby) →
    let waits := r.epoch + 2 - s.grp.epoch == 1 || r.epoch + 2 - s.grp.epoch == 2
    let sent := s.lag.take .noticesSent
    Ends (.attemptEnd t false 0x7F#7) s fun s' =>
      (s.bus.q.count = none → s.stopsGroup .noticesSent = false → s'.lag.outcome = .completed) ∧
      s'.bus.q.count.isSome = (s.bus.q.count.isSome || s.stopsGroup .noticesSent) ∧
      s'.lag.counts = (if waits then { sent with actions := joinActions (r.epoch + 2) a s.lag.actions }
        else match a with
          | .freeze => { sent with frozen := true, cause := .group }
          | .thaw => { sent with frozen := false, cause := .group }
          | .clear => { sent with
              c0 := { sent.c0 with value := 0 }, c1 := { sent.c1 with value := 0 }, c2 := { sent.c2 with value := 0 }
              c3 := { sent.c3 with value := 0 }, frames := 0, repeats := 0, lagSum := 0, lagMax := 0, ovf := 0 }).counts ∧
      s'.grp.epoch = s.grp.epoch ∧ s'.bus.reg = none ∧ Kept [.bus, .lag] s s') ∧
  (∀ (s : State) (t : Nat) (r : TxReg) (nak : Bool) (x : Serial), s.bus.reg = some r → s.bus.engine = .sending →
    s.ctl.st = .run →
    let n := s.momentOf t
    let m := s.grp.membership
    let agrees := r.epoch == s.grp.epoch && s.scan.prog.isNone
    let crosses := r.epoch == s.grp.epoch - 1 && s.scan.st == .wait && s.grp.admMark.isSome &&
      s.grp.admMark == s.scan.waiting.map (·.serial)
    let slips := m == .member || m == .joining || m == .listener
    (r.kind = .rep → m.keepsTable = true → (s.repeatable = true → s.scan.shown = some x) → (agrees || crosses) = true →
      Ends (.attemptEnd t nak 0x7F#7) s fun s' =>
        s'.grp.lastRepeat = (if agrees then .taken else .resequenced) ∧ s'.grp.epoch = s.grp.epoch + 1 ∧
        s'.grp.admMark = none ∧ s'.bus.reg = none ∧ s'.grp.membership = m ∧
        s'.scan = (if !s.repeatable then s.scan
          else if s.periodOver n then s.scan.begun n s.ownHold .rescan x else { s.scan with owed := true }) ∧
        Kept [.lq, .scan, .bus, .grp, .ovl, .lag] s s') ∧
    (r.kind = .rep → m.keepsTable = true → (agrees || crosses) = false →
      Ends (.attemptEnd t nak 0x7F#7) s fun s' =>
        s'.grp.lastRepeat = .ignored ∧ s'.grp.epoch = s.grp.epoch ∧ s'.grp.admMark = s.grp.admMark ∧ s'.bus.reg = none ∧
        s'.grp.outOfStep = (if slips then true else s.grp.outOfStep) ∧
        s'.grp.cleanEpochs = (if slips then 0 else s.grp.cleanEpochs) ∧
        s'.lag.counts = (if slips then (s.lag.take .noticesSent).take .stepSlips else s.lag.take .noticesSent).counts ∧
        Kept [.bus, .grp] s s') ∧
    (r.kind = .standby → s.ctl.departure = none → s.scan.prog = none → s.intakeFits = true →
      Ends (.attemptEnd t false 0x7F#7) s fun s' =>
        s'.ctl.st = .standby ∧ s'.ctl.standbyPending = false ∧ s'.src.lock = .silent ∧ s'.src.frameOpen = false ∧
        s'.scan = s.scan.quiet ∧ s'.lq = Lq.reset ∧ s'.grp.membership = m ∧ s'.grp.epoch = s.grp.epoch ∧
        s'.grp.groupLead = s.grp.groupLead ∧ s'.grp.groupHold = s.grp.groupHold ∧
        s'.bus.reg = none ∧ s'.bus.q.standby = none ∧ Kept [.src, .lq, .scan, .bus, .grp, .ctl] s s') ∧
    (r.kind = .standby → s.ctl.departure = none → s.scan.prog.isSome = true →
      Ends (.attemptEnd t false 0x7F#7) s fun s' =>
        s'.ctl = { s.ctl with standbyPending := true } ∧ s'.scan = s.scan ∧ s'.bus.reg = none ∧ Kept [.bus, .ctl] s s') ∧
    (r.kind = .standby → s.ctl.departure.isSome = true →
      Ends (.attemptEnd t false 0x7F#7) s fun s' => s'.bus.reg = none ∧ Kept [.bus] s s'))

/-- A discarded notice (R69, R71, R78 to R80, R87, R91): a stuffing error, a failed check, a form error and a preamble that
is none each count NOTICE_ERRORS, clear the hold-off, and, outside a decode window, touch nothing but the bus interface. The
recessive bits that end what was read count for idle, nine of them making the engine IDLE at once, fewer WAIT_IDLE (log 10).
The level that ends what was read goes on: its run counts from its first bit, the stuck-bus run from no earlier than its
last restart nor across the own NAK (R89, R90; log 11). Only the failed check of a station whose driver is enabled drives
the NAK slot. A recognised preamble, its hold-off and idle (R69, R71, R87): three runs from 8 to 20 µs set the 2 ms hold-off
and leave the engine in WAIT_IDLE, both runs of the wire starting at its end (R90); the hold-off ends at its moment; the
ninth recessive bit, read at its middle (log 10), makes the bus idle and not before. Nothing else changes. Every block that
the clause does not list as touched stays as `Kept` says. -/
def Obligations.DiscardedNotices : Prop :=
  (∀ (s : State) (t : Nat) (dominant : Bool) (e : BadEnd) (p : FormPoint) (r1 r2 r3 : Nat),
    s.hears = true → s.inDecodeWindow = false →
    let left (now run age : Nat) (s' : State) : Prop :=
      s'.bus.engine = (if 9 ≤ run then .idle else .waitIdle) ∧ s'.bus.idleCount = min 9 run ∧ s'.bus.holdoff = none ∧
        s'.bus.recessiveFrom = some (if run = 0 then now else now - age) ∧
        s'.bus.runFrom = some (if run ≠ 0 ∨ age = 0 then now else max (s.bus.runFrom.getD 0) (now - age)) ∧
        s'.bus.reg.map TxReg.fixed = s.bus.reg.map TxReg.fixed ∧
        s'.lag.counts = (s.lag.take .noticeErrors).counts ∧ Kept [.bus] s s'
    let n := s.momentOf t
    let bits (k : Nat) : Nat := k * s.bus.bitTime
    let slot := e.nak || s.driverEnabled
    let high := trailing (bitsOf 7 e.ends.toNat)
    let low := trailing ((bitsOf 7 e.ends.toNat).map (!·))
    let clean := if slot then 7 else 8 + (if e.tail.dominant then 0 else min 5 e.tail.bits)
    let stuck := if s.driverEnabled || !e.nak then 7 else 8 + (if e.tail.dominant then min 5 e.tail.bits else 0)
    let read := min (if p.tail.dominant then 7 else 5) p.tail.bits
    let beyond :=
      if 20000 < r1 then r1 else if r1 < 8000 ∨ r2 < 8000 then 0 else if 20000 < r2 then r2
      else if 20000 < r3 then r3 else 0
    Ends (.stuffingError t dominant) s (fun s' =>
      left n (if dominant then 0 else 6) (bits 6) s' ∧ s'.bus.nakDriven = false) ∧
    Ends (.noticeCheckFailure t e) s (fun s' =>
      (e.ends = 0x7F#7 → left n clean (bits clean) s') ∧ (e.ends = 0#7 → left n 0 (bits stuck) s') ∧
      (e.ends ≠ 0x7F#7 → e.ends ≠ 0#7 → left n high (bits (high + low)) s') ∧ s'.bus.nakDriven = s.driverEnabled) ∧
    Ends (.noticeFormError p) s (fun s' =>
      left (s.momentOf p.moment) (if p.tail.dominant then 0 else read) (bits read) s' ∧ s'.bus.nakDriven = false) ∧
    (patternOk r1 r2 r3 = false →
      Ends (.preambleRecognised t r1 r2 r3) s (left n (if 8000 ≤ r1 ∧ r1 ≤ 20000 ∧ 20000 < r2 then 9 else 0) beyond))) ∧
  (∀ (s : State) (t r1 r2 r3 e : Nat),
    (s.hears = true → 8000 ≤ r1 → r1 ≤ 20000 → 8000 ≤ r2 → r2 ≤ 20000 → 8000 ≤ r3 → r3 ≤ 20000 →
      Gives (.preambleRecognised t r1 r2 r3) s
        { s with
          now := s.momentOf t
          bus := { s.bus with
            engine := .waitIdle, idleCount := 0, recessiveFrom := some (s.momentOf t), runFrom := some (s.momentOf t)
            holdoff := some (s.momentOf t + 2000000) } }) ∧
    (s.bus.holdoff = some e → e ≤ s.momentOf t →
      Gives (.wakeHoldoffExpiry t) s { s with now := s.momentOf t, bus := { s.bus with holdoff := none } }) ∧
    (s.bus.engine = .waitIdle → passed s.bus.recessiveFrom (17 * s.bus.bitTime / 2) (s.momentOf t) = true →
      Gives (.busIdle t) s
        { s with
          now := s.momentOf t, bus := { s.bus with engine := .idle, idleCount := 9, runFrom := some (s.momentOf t) } }) ∧
    ((s.bus.engine ≠ .waitIdle ∨ passed s.bus.recessiveFrom (17 * s.bus.bitTime / 2) (s.momentOf t) = false) →
      Gives (.busIdle t) s { s with now := s.momentOf t }))

/-- The mute (R83, R88, R89, R116): the flag and the count, the engine in WAIT_IDLE, or LOST as it was (log 17), the notice
back in its slot without a failure, and both runs of the wire started at the mute (log 11); a third mute within 256 epochs
is permanent, with LISTENER and an empty queue; a release needs IDLE and 200 µs of recessive wire since the mute or a later
entry to RUN, as far as the commands report the wire (log 11, log 42). Every block that the clause does not list as touched
stays as `Kept` says. -/
def Obligations.DriverMuted : Prop :=
  ∀ (s : State) (t : Nat) (r : TxReg),
    let n := s.momentOf t
    let engine : Engine := if s.bus.engine = .lost then .lost else .waitIdle
    (s.driverEnabled = true → s.bus.muteAges.length < 2 →
      Ends (.driverMute t) s fun s' =>
        s'.bus.mute = .muted ∧ s'.bus.muteAges = s.bus.muteAges ++ [0] ∧ s'.port.flags.getLsbD 4 = true ∧
        s'.bus.muteCount = (if s.bus.muteCount = 255 then 255 else s.bus.muteCount + 1) ∧ s'.bus.engine = engine ∧
        s'.bus.idleCount = 0 ∧ s'.bus.reg = none ∧ s'.bus.runFrom = some n ∧ s'.bus.recessiveFrom = some n ∧
        s'.bus.muteFrom = some n ∧
        (s.bus.reg = some r → r.kind.plain = true → s'.bus.q.get r.kind = s.slotAfterReturn r r.notice) ∧
        s'.lag.counts = s.lag.counts ∧ Kept [.bus] s s') ∧
    (s.driverEnabled = true → 2 ≤ s.bus.muteAges.length →
      (s.grp.membership = .member ∨ s.grp.membership = .joining ∨ s.grp.membership = .listening ∨
        s.grp.membership = .refused) →
      Ends (.driverMute t) s fun s' =>
        s'.bus.mute = .permanent ∧ s'.grp.membership = .listener ∧ (∀ k, s'.bus.q.get k = none) ∧ s'.bus.reg = none ∧
        s'.bus.muteAges = s.bus.muteAges ∧ s'.bus.engine = engine ∧ s'.port.flags.getLsbD 4 = true ∧
        s'.port.flags.getLsbD 0 = true ∧ s'.grp.listenEnd = none ∧ s'.grp.epoch = s.grp.epoch ∧
        s'.ctl = { s.ctl with departure := s'.ctl.departure } ∧ Kept [.bus, .grp, .ctl] s s') ∧
    (s.driverEnabled = true → 2 ≤ s.bus.muteAges.length → s.grp.membership = .alone →
      Ends (.driverMute t) s fun s' =>
        s'.bus.mute = .permanent ∧ s'.grp.membership = .alone ∧ (∀ k, s'.bus.q.get k = none) ∧ s'.bus.reg = none ∧
        s'.bus.engine = engine ∧ s'.port.flags.getLsbD 4 = true ∧ s'.ctl = { s.ctl with departure := s'.ctl.departure } ∧
        Kept [.bus, .ctl] s s') ∧
    (s.driverEnabled = false → Gives (.driverMute t) s { s with now := n }) ∧
    ((s.ctl.st = .run ∨ s.ctl.st = .standby) → s.bus.mute = .muted → s.bus.engine = .idle →
      passed s.bus.recessiveFrom 200000 n = true → passed s.bus.muteFrom 200000 n = true →
      Gives (.muteRelease t) s { s with now := n, bus := { s.bus with mute := .enabled } })

/-- The bus lost and recovered (R85, R90, R94, R115): after 200 µs of dominant wire the engine is LOST, the queue empty, and
a station in the group is ALONE with an empty table; in a decode window the loss ends the window and the receiver goes off
again (R149); after 200 µs of recessive wire the engine is IDLE and the membership takes its return state, with a new listen
window in LISTENING; a membership other than ALONE stays (log 31). Both runs are the earliest that the reported wire allows
(log 11). Every block that the clause does not list as touched stays as `Kept` says. -/
def Obligations.BusLostAndRecovered : Prop :=
  ∀ (s : State) (t a : Nat),
    ((s.bus.engine = .waitIdle ∨ s.bus.engine = .receiving) →
      passed s.bus.runFrom 200000 (s.momentOf t) = true → s.inDecodeWindow = false →
      Ends (.busLost t) s fun s' =>
        s'.bus.engine = .lost ∧ (∀ k, s'.bus.q.get k = none) ∧ s'.port.flags.getLsbD 3 = true ∧
        s'.grp.membership = (if s.grp.membership = .outside then .outside else .alone) ∧
        (s.grp.membership ≠ .outside → s.grp.membership ≠ .alone →
          s'.grp.peers = [] ∧ s'.grp.listenEnd = none ∧ s'.grp.ownWindowEnd = none ∧ s'.grp.ownInUse = none ∧
          s'.grp.ownPend = none ∧ s'.port.flags.getLsbD 0 = true) ∧
        s'.bus.reg.map TxReg.fixed = s.bus.reg.map TxReg.fixed ∧ s'.grp.epoch = s.grp.epoch ∧
        s'.ctl = { s.ctl with departure := s'.ctl.departure } ∧ Kept [.bus, .grp, .ctl] s s') ∧
    (s.ctl.st = .sleep → s.ctl.det = .window a → s.grp.membership = .outside →
      (s.bus.engine = .waitIdle ∨ s.bus.engine = .receiving) → passed s.bus.runFrom 200000 (s.momentOf t) = true →
      Ends (.busLost t) s fun s' =>
        s'.ctl.det = (if s.cfg.followWake || s.ctl.forcedListen then .waiting else .off) ∧ s'.bus.engine = .off ∧
        s'.ctl.sleepFails = s.ctl.sleepFails ∧ s'.ctl.st = .sleep ∧ s'.port.flags.getLsbD 3 = true ∧
        s'.grp.membership = .outside ∧ (∀ k, s'.bus.q.get k = none) ∧ s'.lag.counts = s.lag.counts ∧
        Kept [.bus, .ctl] s s') ∧
    (s.bus.engine = .lost → passed s.bus.recessiveFrom 200000 (s.momentOf t) = true →
      Ends (.busRecovered t) s fun s' =>
        s'.bus.engine = .idle ∧ s'.bus.idleCount = 9 ∧
        s'.grp.membership = (if s.grp.membership = .alone then
          (if s.grp.dupLatch then .duplicate else if s.bus.mute = .permanent then .listener else .listening)
          else s.grp.membership) ∧
        (s.grp.membership = .alone → s.grp.dupLatch = false → s.bus.mute ≠ .permanent →
          s'.grp.listenEnd = some (s.momentOf t + 64000000)) ∧
        s'.grp.epoch = s.grp.epoch ∧ s'.ctl = { s.ctl with departure := s'.ctl.departure } ∧
        Kept [.bus, .grp, .ctl] s s')

/-! ### Notices heard -/

/-- A REPEAT from another station (R127 to R130, R132), at a station in RUN that acts on it. With the own epoch and no scan
in progress it is taken, and one that crossed the admission of the waiting frame is re-sequenced: the epoch rises by 1, the
mark is cleared, and a repeat scan starts, or is owed until the minimum frame period passes, or none starts before the first
scan. Any other REPEAT of a sender in step is ignored, a step slip, counted as STEP_SLIPS, in MEMBER, JOINING and LISTENER.
The own REPEAT is withdrawn. An ignored REPEAT is followed by the adoption test (R130, R132 to R135): the sender's epoch P
is its field + 1, and where it differs from the start epoch S, a station that follows the sender takes P + (E − S), the mark
cleared, every pending announcement in use and the actions applied; the notice counts one STEP_SLIPS in all. Every block
that the clause does not list as touched stays as `Kept` says. -/
def Obligations.RepeatJudged : Prop :=
  (∀ (s : State) (t : Nat) (h : Rx) (x : Serial), s.takesFrom h = true → s.ctl.st = .run → s.grp.membership ≠ .outside →
    s.grp.membership ≠ .alone → (s.repeatable = true → s.scan.shown = some x) →
    let n := s.momentOf t
    let m := s.grp.membership
    let agrees := h.epoch == s.grp.epoch && s.scan.prog.isNone
    let crosses := h.epoch == s.grp.epoch - 1 && s.scan.st == .wait && s.grp.admMark.isSome &&
      s.grp.admMark == s.scan.waiting.map (·.serial)
    let slips := m == .member || m == .joining || m == .listener
    ((agrees || crosses) = true →
      Ends (.repeatReceived t h) s fun s' =>
        s'.grp.lastRepeat = (if agrees then .taken else .resequenced) ∧ s'.grp.epoch = s.grp.epoch + 1 ∧
        s'.grp.admMark = none ∧ s'.bus.q.rep = none ∧ s'.grp.membership = m ∧
        s'.scan = (if !s.repeatable then s.scan
          else if s.periodOver n then s.scan.begun n s.ownHold .rescan x else { s.scan with owed := true }) ∧
        s'.lq.ring = s.lq.ring ∧ Kept [.lq, .scan, .bus, .grp, .ovl, .lag] s s') ∧
    ((agrees || crosses) = false → h.epoch + 1 = s.bus.startEpoch →
      Ends (.repeatReceived t h) s fun s' =>
        s'.grp.lastRepeat = .ignored ∧ s'.grp.epoch = s.grp.epoch ∧ s'.grp.admMark = s.grp.admMark ∧
        s'.bus.q.rep = none ∧ s'.grp.membership = m ∧ s'.grp.outOfStep = (if slips then true else s.grp.outOfStep) ∧
        s'.grp.cleanEpochs = (if slips then 0 else s.grp.cleanEpochs) ∧
        (s.knownAwake h.sender = true → s'.lag.counts = (if slips then s.lag.take .stepSlips else s.lag).counts) ∧
        s'.heardZero h.sender.toNat = true ∧
        Kept [.bus, .grp] s s')) ∧
  (∀ (s : State) (t : Nat) (h : Rx), s.takesFrom h = true → s.ctl.st = .run → s.grp.membership.keepsTable = true →
    s.knownAwake h.sender = true → s.tablesWf = true → h.epoch + 1 ≠ s.bus.startEpoch →
    let m := s.grp.membership
    let agrees := h.epoch == s.grp.epoch && s.scan.prog.isNone
    let crosses := h.epoch == s.grp.epoch - 1 && s.scan.st == .wait && s.grp.admMark.isSome &&
      s.grp.admMark == s.scan.waiting.map (·.serial)
    let slips := m == .member || m == .joining || m == .listener
    let adopts := s.follows h.sender
    (agrees || crosses) = false →
    Ends (.repeatReceived t h) s fun s' =>
      s'.grp.lastRepeat = .ignored ∧
      s'.grp.epoch = (if adopts then h.epoch + 1 + (s.grp.epoch - s.bus.startEpoch) else s.grp.epoch) ∧
      s'.grp.admMark = (if adopts then none else s.grp.admMark) ∧
      s'.grp.outOfStep = (slips || s.grp.outOfStep) ∧ s'.grp.cleanEpochs = (if slips then 0 else s.grp.cleanEpochs) ∧
      (s.lag.runsFree = true → s.lag.c0.select = 15 →
        s'.lag.c0.value = (if slips then s.lag.c0.value + 1 else s.lag.c0.value)) ∧
      (adopts = true → s'.grp.peers = s.peersAdopted h.sender ∧ s'.grp.ownPend = none ∧ s'.lag.actions = [] ∧
        s'.grp.ownInUse = (s.grp.ownPend.map (·.ann)).or s.grp.ownInUse) ∧
      s'.grp.membership = m ∧ s'.bus.q.rep = none ∧ Kept [.bus, .grp, .lag] s s')

/-- A REFUSE from a station in step (R106, R107, R110, R116). Naming this station it binds in LISTENING, JOINING and MEMBER:
REFUSED with the record, the role notices withdrawn, both flags set. In REFUSED it updates the record, in LISTENER and
DUPLICATE it changes neither. Naming another, it removes that entry and sends a REFUSED station back to listen. A LEAVE from
a station in step (R107, R108): its entry goes, whatever its state and whatever the reason byte, and a REFUSED station goes
back to listen. Every block that the clause does not list as touched stays as `Kept` says. -/
def Obligations.RefuseAndLeaveHeard : Prop :=
  (∀ (s : State) (t : Nat) (h : Rx) (b : Byte),
    s.takesFrom h = true → h.epoch = s.bus.startEpoch → s.grp.membership.keepsTable = true →
    let target := (b.extractLsb' 4 4).toNat
    let mine := target == s.ctl.station.toNat
    let m := s.grp.membership
    let binds := mine && (m == .listening || m == .joining || m == .member)
    let retries := !mine && m == .refused
    Ends (.refuseReceived t h b) s fun s' =>
      s'.grp.membership = (if binds then .refused else if retries then .listening else m) ∧
      s'.grp.refusal = (if mine && (binds || m == .refused)
        then some { refuser := .station h.sender, reason := b.extractLsb' 0 2 } else s.grp.refusal) ∧
      (binds = true → s'.port.flags.getLsbD 1 = true ∧ s'.port.flags.getLsbD 0 = true ∧ s'.grp.listenEnd = none) ∧
      (binds = true → m ≠ .listening → s'.bus.q.join = none ∧ s'.bus.q.status = none ∧ s'.bus.q.refuse = none ∧
        s'.bus.q.standby = none ∧ s'.grp.ownWindowEnd = none) ∧
      (retries = true → s'.grp.listenEnd = some (s.momentOf t + 64000000)) ∧ (mine = false → s'.peer target = none) ∧
      (∀ n, n ≠ target → (s'.peer n).isSome = (s.peer n).isSome) ∧ s'.grp.epoch = s.grp.epoch ∧ Kept [.bus, .grp] s s') ∧
  (∀ (s : State) (t : Nat) (h : Rx) (b : Byte),
    s.takesFrom h = true → h.epoch = s.bus.startEpoch → s.grp.membership.keepsTable = true →
    Ends (.leaveReceived t h b) s fun s' =>
      s'.peer h.sender.toNat = none ∧ (∀ n, n ≠ h.sender.toNat → (s'.peer n).isSome = (s.peer n).isSome) ∧
      s'.grp.membership = (if s.grp.membership = .refused then .listening else s.grp.membership) ∧
      (s.grp.membership = .refused → s'.grp.listenEnd = some (s.momentOf t + 64000000)) ∧
      s'.grp.refusal = s.grp.refusal ∧ s'.grp.epoch = s.grp.epoch ∧ Kept [.bus, .grp] s s')

/-- A JOIN from a station in step (R96, R97, R99 to R101): a retry of one accepted, or of one owed a refusal, changes
nothing but the epochs since heard. Any other creates or renews the entry as PENDING with the JOIN's fields, the next heard
order, the announcements kept, and an 8 ms window, or the refusal due that the check of a JOINING or MEMBER station finds.
Every block that the clause does not list as touched stays as `Kept` says. -/
def Obligations.JoinRenewsEntry : Prop :=
  ∀ (s : State) (t : Nat) (h : Rx) (j : JoinRec),
    s.takesFrom h = true → h.epoch = s.bus.startEpoch → s.grp.membership.keepsTable = true →
    let x := h.sender.toNat
    let old := s.peer x
    let keeps := old.any fun p => p.state == .pending && ((p.join == some j && p.windowEnd.isSome) || p.due.isSome)
    let due := if s.grp.membership.active then s.checkJoin x j else none
    Ends (.joinReceived t h j.encode) s fun s' =>
      s'.peer x = (if keeps then old.map fun p => { p with heard := 0 }
        else some {
          state := .pending, join := some j, order := some (maxOrder (dropPeer x s.grp.peers) + 1),
          windowEnd := if due.isSome then none else some (s.momentOf t + 8000000),
          inUse := old.bind (·.inUse), pend := old.bind (·.pend), heard := 0, due := due }) ∧
      (∀ n, n ≠ x → (s'.peer n).isSome = (s.peer n).isSome) ∧ s'.grp.membership = s.grp.membership ∧
      s'.grp.epoch = s.grp.epoch ∧ Kept [.bus, .grp] s s'

/-- A STATUS from a station in step (R96, R122): an unknown sender gets a MEMBER entry without JOIN fields, a known one
keeps its state unless SILENT; the announcement waits for the epoch two above the notice's when that is one or two
increments ahead, and is in use at once otherwise. Every block that the clause does not list as touched stays as `Kept`
says. -/
def Obligations.StatusAnnounces : Prop :=
  ∀ (s : State) (t : Nat) (h : Rx) (a : Ann),
    s.takesFrom h = true → h.epoch = s.bus.startEpoch → s.grp.membership.keepsTable = true →
    let x := h.sender.toNat
    let d := h.epoch + 2 - s.grp.epoch
    let waits := d == 1 || d == 2
    Ends (.statusReceived t h a.encode) s fun s' =>
      (s'.peer x).map (·.inUse) = some (if waits then (s.peer x).bind (·.inUse) else some a) ∧
      (s'.peer x).map (·.pend) = some (if waits then some { ann := a, effective := h.epoch + 2 } else none) ∧
      (s'.peer x).map (·.heard) = some 0 ∧ (s'.peer x).map (·.join) = some ((s.peer x).bind (·.join)) ∧
      (s.peer x = none → (s'.peer x).map (·.state) = some .member) ∧
      ((s.peer x).all (fun p => p.state != .silent) = true → (s.peer x).isSome = true →
        (s'.peer x).map (·.state) = (s.peer x).map (·.state)) ∧
      (∀ n, n ≠ x → s'.peer n = s.peer n) ∧ s'.grp.membership = s.grp.membership ∧ s'.grp.epoch = s.grp.epoch ∧
      Kept [.bus, .grp] s s'

/-- STANDBY heard in RUN with no departure pending (R22, R29, R42, R45, R143, R158): without a scan the station enters
STANDBY at once, the lock state SILENT, the scan engine DARK, the line queue empty, the picture, the table and the epoch
kept, and the group values as a re-check of the sender leaves them (R112, R136); during a scan the entry waits for its end.
In every other case outside a decode window it does nothing beyond the liveness of its sender, whatever its epoch field: no
adoption. WAKE heard outside a decode window (R145, R158): in STANDBY with no departure pending, a mask with the own bit
returns the station to RUN with WOKE and the cause, a mark already on its way being decoded by nobody; without the bit, and
in every other state, the station stays as it is. With no departure pending, an own waiting WAKE whose mask the heard one
covers is withdrawn. Wakes from STANDBY by the source (R22, R136, R145, R158): the start of any mark, decoded later by
nobody, and the activity report, both return the station to RUN with WAKE queued for every station. The group values, kept
in STANDBY, are recomputed at the return, the model's choice of the moment (log 38). Every block that the clause does not
list as touched stays as `Kept` says. -/
def Obligations.StandbyAndWakeHeard : Prop :=
  (∀ (s : State) (t : Nat) (h : Rx), s.takesFrom h = true → s.intakeFits = true →
    (s.ctl.st = .run → s.ctl.departure = none → s.scan.prog = none →
      Ends (.standbyReceived t h) s fun s' =>
        s'.ctl.st = .standby ∧ s'.ctl.standbyPending = false ∧ s'.src.lock = .silent ∧ s'.src.frameOpen = false ∧
        s'.src.silenceFrom = none ∧ s'.src.line = none ∧ s'.src.fill = none ∧ s'.src.gateFrom = none ∧
        s'.scan = s.scan.quiet ∧ s'.lq = Lq.reset ∧ s'.grp.membership = s.grp.membership ∧ s'.grp.epoch = s.grp.epoch ∧
        (s.knownAwake h.sender = true → s'.grp.groupLead = s.grp.groupLead ∧ s'.grp.groupHold = s.grp.groupHold) ∧
        s'.grp.listenEnd = s.grp.listenEnd ∧ s'.bus.q.rep = none ∧ s'.bus.q.standby = none ∧
        (s.src.lock = .locked → s'.port.flags.getLsbD 7 = true) ∧
        s'.ctl.silentFrom = (if s.src.lock = .silent then s.ctl.silentFrom else some (s.momentOf t)) ∧
        Kept [.src, .lq, .scan, .bus, .grp, .ctl] s s') ∧
    (s.ctl.st = .run → s.ctl.departure = none → s.scan.prog.isSome = true → h.epoch = s.bus.startEpoch →
      Ends (.standbyReceived t h) s fun s' =>
        s'.ctl = { s.ctl with standbyPending := true } ∧ s'.grp.membership = s.grp.membership ∧
        s'.grp.epoch = s.grp.epoch ∧ (s.judged.standby = true → s'.bus.q.standby = none) ∧
        Kept [.bus, .grp, .ctl] s s') ∧
    ((s.ctl.st ≠ .run ∨ s.ctl.departure.isSome = true) → s.inDecodeWindow = false →
      Ends (.standbyReceived t h) s fun s' =>
        s'.grp.membership = s.grp.membership ∧ s'.grp.epoch = s.grp.epoch ∧ s'.grp.admMark = s.grp.admMark ∧
        s'.grp.outOfStep = s.grp.outOfStep ∧ s'.grp.cleanEpochs = s.grp.cleanEpochs ∧
        s'.grp.listenAdopted = s.grp.listenAdopted ∧ s'.grp.ownInUse = s.grp.ownInUse ∧ s'.grp.ownPend = s.grp.ownPend ∧
        s'.lag.actions = s.lag.actions ∧ (s.knownAwake h.sender = true → s'.lag = s.lag) ∧
        (s.grp.membership.keepsTable = true → s'.heardZero h.sender.toNat = true) ∧ Kept [.bus, .grp] s s')) ∧
  (∀ (s : State) (t : Nat) (h : Rx) (mask mine : BitVec 16), s.takesFrom h = true → h.epoch = s.bus.startEpoch →
    let waiting := s.bus.q.wake.map (·.payload) == some [mine.extractLsb' 8 8, mine.extractLsb' 0 8]
    (s.ctl.st = .standby → s.ctl.departure = none → mask.getLsbD s.ctl.station.toNat = true →
      Ends (.wakeReceived t h mask) s fun s' =>
        s'.ctl.st = .run ∧ s'.ctl.wakeCause = .notice ∧ s'.port.flags.getLsbD 10 = true ∧ s'.src.lock = .search ∧
        s'.src.silenceFrom = some (s.momentOf t) ∧ s'.src.lateMark = true ∧ s'.ctl.silentFrom = none ∧
        s'.grp.groupLead = s'.leadOfGroup ∧ s'.grp.groupHold = s'.holdOfGroup ∧
        s'.grp.membership = s.grp.membership ∧ s'.grp.epoch = s.grp.epoch ∧ Kept [.src, .bus, .grp, .ctl] s s') ∧
    ((s.ctl.st ≠ .standby ∨ s.ctl.departure.isSome = true ∨ mask.getLsbD s.ctl.station.toNat = false) →
      Ends (.wakeReceived t h mask) s fun s' =>
        s'.grp.membership = s.grp.membership ∧ s'.grp.epoch = s.grp.epoch ∧ Kept [.bus, .grp] s s') ∧
    (s.ctl.departure = none → waiting = true →
      Ends (.wakeReceived t h mask) s fun s' =>
        s'.bus.q.wake = (if mine &&& mask = mine then none else s.bus.q.wake) ∧ Kept [.src, .bus, .grp, .ctl] s s')) ∧
  (∀ (s : State) (t : Nat) (kind : Byte) (i : Instr), s.ctl.st = .standby → s.ctl.departure = none →
    s.src.lock = .silent →
    i ∈ [Instr.sourceActivity t, .markStart t kind] →
    let changes := s.grp.groupLead != s.leadOfGroup
    Ends i s fun s' =>
      s'.ctl = { s.ctl with st := .run, sleepFails := 0, wakeCause := .source, silentFrom := none } ∧
      s'.src = { s.src with lock := .search, silenceFrom := some (s.momentOf t), line := none, lateMark := true } ∧
      s'.grp = { s.grp with groupLead := s.leadOfGroup, groupHold := s.holdOfGroup } ∧
      s'.lag.counts = (if changes then s.lag.take .groupLeadChanges else s.lag).counts ∧
      s'.port.flags.getLsbD 10 = true ∧
      s'.bus.q.wake = some { payload := [0xFF, 0xFF], fails := 0, epoch := none } ∧
      s'.bus.engine = s.bus.engine ∧ s'.bus.q.leave = s.bus.q.leave ∧ s'.bus.q.join = s.bus.q.join ∧
      s'.bus.reg.map TxReg.fixed = s.bus.reg.map TxReg.fixed ∧ Kept [.src, .bus, .grp, .ctl] s s')

/-- IDENT and COUNT heard in RUN or STANDBY (R163, R164, R176, R177): 1 to 60 seconds start identify mode, other values do
nothing; the action of a COUNT waits for the epoch two above the notice's when that is one or two increments ahead, and
otherwise applies at once: FREEZE, THAW, CLEAR. It does so whether the meter counts or not. A COUNT whose action byte is not
1 to 3 counts for liveness alone (R96, R197): the meter and its actions stay, and so does the epoch, whatever the notice's
epoch field. Every block that the clause does not list as touched stays as `Kept` says. -/
def Obligations.IdentAndCountNotices : Prop :=
  (∀ (s : State) (t : Nat) (h : Rx) (b : Byte) (a : CountAction),
    s.takesFrom h = true → h.epoch = s.bus.startEpoch → (s.ctl.st = .run ∨ s.ctl.st = .standby) →
    let waits := h.epoch + 2 - s.grp.epoch == 1 || h.epoch + 2 - s.grp.epoch == 2
    Ends (.identReceived t h b) s (fun s' =>
      s'.ovl = (if 1 ≤ b.toNat ∧ b.toNat ≤ 60
        then { s.ovl with identifyUntil := s.momentOf t + b.toNat * 1000000000 } else s.ovl) ∧
      s'.grp.membership = s.grp.membership ∧ s'.grp.epoch = s.grp.epoch ∧ Kept [.bus, .grp, .ovl] s s') ∧
    Ends (.countReceived t h a.byte) s (fun s' =>
      (s.knownAwake h.sender = true → s'.lag = (if waits then { s.lag with actions := joinActions (h.epoch + 2) a s.lag.actions }
        else match a with
          | .freeze => { s.lag with frozen := true, cause := .group }
          | .thaw => { s.lag with frozen := false, cause := .group }
          | .clear => { s.lag with
              c0 := { s.lag.c0 with value := 0 }, c1 := { s.lag.c1 with value := 0 }, c2 := { s.lag.c2 with value := 0 }
              c3 := { s.lag.c3 with value := 0 }, frames := 0, repeats := 0, lagSum := 0, lagMax := 0, ovf := 0 })) ∧
      s'.grp.membership = s.grp.membership ∧ s'.grp.epoch = s.grp.epoch ∧ Kept [.bus, .grp, .lag] s s')) ∧
  (∀ (s : State) (t : Nat) (h : Rx) (b : Byte),
    s.takesFrom h = true → b ≠ 1 → b ≠ 2 → b ≠ 3 → s.grp.membership.keepsTable = true →
    Ends (.countReceived t h b) s fun s' =>
      (s.knownAwake h.sender = true → s'.lag = s.lag) ∧ s'.lag.actions = s.lag.actions ∧
      s'.heardZero h.sender.toNat = true ∧ s'.grp.epoch = s.grp.epoch ∧ s'.grp.outOfStep = s.grp.outOfStep ∧
      s'.grp.listenAdopted = s.grp.listenAdopted ∧ s'.grp.membership = s.grp.membership ∧ Kept [.bus, .grp] s s')

/-- The adoption test after an accepted notice, here an IDENT, whose epoch field differs from the station's epoch at its
start bit (R98, R132 to R135): a MEMBER follows a lower-numbered member, a JOINING station any lower number, a LISTENER any
member, each but the LISTENING with a slip counted; the epoch becomes P + k, the mark is cleared, the own and every peer's
pending announcement moves into use, a waiting REPEAT takes the new epoch. Others adopt nothing. Every block that the clause
does not list as touched stays as `Kept` says. -/
def Obligations.AdoptionFollowsSender : Prop :=
  ∀ (s : State) (t : Nat) (h : Rx),
    s.takesFrom h = true → s.ctl.st = .run → h.epoch ≠ s.bus.startEpoch → s.knownAwake h.sender = true →
    s.tablesWf = true → s.grp.membership.keepsTable = true →
    let m := s.grp.membership
    let e := h.epoch + (s.grp.epoch - s.bus.startEpoch)
    (s.follows h.sender = true →
      Ends (.identReceived t h 0) s fun s' =>
        s'.grp.epoch = e ∧ s'.grp.admMark = none ∧ s'.grp.peers = s.peersAdopted h.sender ∧
        (m ≠ .listening → s'.grp.outOfStep = true ∧ s'.grp.cleanEpochs = 0) ∧
        (m = .listening → s'.grp.outOfStep = s.grp.outOfStep ∧ s'.grp.listenAdopted = true) ∧
        (s.lag.runsFree = true → s.lag.c0.select = 15 →
          s'.lag.c0.value = (if m = .listening then s.lag.c0.value else s.lag.c0.value + 1)) ∧
        s'.grp.ownPend = none ∧ s'.grp.ownInUse = (s.grp.ownPend.map (·.ann)).or s.grp.ownInUse ∧
        s'.bus.q.rep.map (·.epoch) = s.bus.q.rep.map (fun _ => some e) ∧
        s'.lag.actions = [] ∧ s'.grp.membership = m ∧ s'.bus.muteAges = s.bus.muteAges ∧ Kept [.bus, .grp, .lag] s s') ∧
    (s.follows h.sender = false →
      Ends (.identReceived t h 0) s fun s' =>
        s'.grp.epoch = s.grp.epoch ∧ s'.grp.admMark = s.grp.admMark ∧ s'.grp.outOfStep = s.grp.outOfStep ∧
        s'.lag.actions = s.lag.actions ∧ Kept [.bus, .grp] s s')

/-- A notice of the station's own number, of any kind (R113, R116): the latch and the DUPLICATE flag are set, and outside
OUTSIDE and ALONE the membership is DUPLICATE with the transmit queue empty; in OUTSIDE it stays. Heard in a decode window
(R94, R113, R149, R151), the window ends as with any accepted notice: back to the detector with the failure count 0, or,
with a WAKE that names the station, a wake, into RUN as a DUPLICATE or into OVERHEAT. A loss after the station field meets
the own number (R77, R85): DUPLICATE with its latch and both flags, the transmit queue empty and the notice gone. Every
block that the clause does not list as touched stays as `Kept` says. -/
def Obligations.OwnNumberFound : Prop :=
  (∀ (s : State) (t : Nat) (h : Rx) (b : Byte) (j : BitVec 56) (a : BitVec 32) (mask : BitVec 16)
    (i : Instr),
    s.hears = true → s.inDecodeWindow = false → h.sender = s.ctl.station → s.grp.membership ≠ .alone →
    s.grp.membership ≠ .duplicate →
    i ∈ [Instr.repeatReceived t h, .refuseReceived t h b, .leaveReceived t h b, .joinReceived t h j,
        .statusReceived t h a, .wakeReceived t h mask, .standbyReceived t h, .countReceived t h b, .identReceived t h b] →
    Ends i s fun s' =>
        s'.grp.dupLatch = true ∧ s'.port.flags.getLsbD 2 = true ∧
        s'.grp.membership = (if s.grp.membership = .outside then .outside else .duplicate) ∧
        (s.grp.membership ≠ .outside → (∀ k, s'.bus.q.get k = none) ∧ s'.port.flags.getLsbD 0 = true ∧
          s'.grp.listenEnd = none) ∧
        Kept [.src, .lq, .scan, .bus, .grp, .ctl, .ovl, .lag] s s') ∧
  (∀ (s : State) (t k : Nat) (h : Rx) (b : Byte) (j : BitVec 56) (a : BitVec 32) (mask : BitVec 16) (i : Instr),
    s.hears = true → s.ctl.st = .sleep → s.ctl.det = .window k → h.sender = s.ctl.station → s.grp.membership = .outside →
    (mask.getLsbD s.ctl.station.toNat = false →
      i ∈ [Instr.repeatReceived t h, .refuseReceived t h b, .leaveReceived t h b, .joinReceived t h j,
        .statusReceived t h a, .wakeReceived t h mask, .standbyReceived t h, .countReceived t h b, .identReceived t h b] →
      Ends i s fun s' =>
        s'.grp = { s.grp with dupLatch := true } ∧ s'.port.flags.getLsbD 2 = true ∧ s'.ctl.st = .sleep ∧
        s'.ctl.sleepFails = 0 ∧ s'.bus.engine = .off ∧
        s'.ctl.det = (if s.cfg.followWake || s.ctl.forcedListen then .waiting else .off) ∧ Kept [.bus, .grp, .ctl] s s') ∧
    (mask.getLsbD s.ctl.station.toNat = true → s.ctl.temp < 115 →
      Ends (.wakeReceived t h mask) s fun s' =>
        s'.grp.dupLatch = true ∧ s'.port.flags.getLsbD 2 = true ∧ s'.ctl.wakeCause = .notice ∧
        CameUp { s with grp := { s.grp with dupLatch := true } } s' (s.momentOf t) ∧ Kept [.src, .bus, .grp, .ctl] s s') ∧
    (mask.getLsbD s.ctl.station.toNat = true → 115 ≤ s.ctl.temp →
      Ends (.wakeReceived t h mask) s fun s' =>
        s'.grp.dupLatch = true ∧ s'.port.flags.getLsbD 2 = true ∧ s'.ctl.st = .overheat ∧ s'.grp.membership = .outside ∧
        Kept [.src, .lq, .mem, .scan, .bus, .grp, .ctl, .ovl, .lag] s s')) ∧
  (∀ (s : State) (t pos : Nat) (r : TxReg), s.bus.reg = some r → s.bus.engine = .sending → r.bits[pos]? = some true →
    stationFieldEnd r.kind.code s.ctl.station.toNat ≤ pos →
    s.grp.membership ≠ .outside → s.grp.membership ≠ .duplicate →
    Ends (.arbitrationLoss t pos) s fun s' =>
      s'.grp.membership = .duplicate ∧ s'.grp.dupLatch = true ∧ s'.port.flags.getLsbD 2 = true ∧
      s'.port.flags.getLsbD 0 = true ∧ (∀ k, s'.bus.q.get k = none) ∧ s'.bus.reg = none ∧ s'.bus.engine = .receiving ∧
      s'.grp.listenEnd = none ∧ s'.grp.epoch = s.grp.epoch ∧ s'.lag.counts = (s.lag.take .arbLosses).counts ∧
      s'.ctl = { s.ctl with departure := s'.ctl.departure } ∧ Kept [.bus, .grp, .ctl] s s')

/-! ### Group membership and group values -/

/-- The ends of the three membership windows (R98, R103, R104, R107, R116). After its 64 ms listen window a station is
JOINING with a JOIN and a STATUS queued. At the end of its own refusal window it is MEMBER, or REFUSED by itself where its
record clashes with a MEMBER entry. At the end of an entry's window the entry is MEMBER, or owed a refusal, or removed. A
SILENT entry heard again, here by an IDENT from a station in step (R112): with no clash it is MEMBER again; with one it is
owed a refusal in JOINING and MEMBER and stays SILENT. One already owed a refusal keeps it either way (log 18). The group
values follow. Every block that the clause does not list as touched stays as `Kept` says. -/
def Obligations.MembershipWindowsEnd : Prop :=
  (∀ (s : State) (t e : Nat) (x : StationNo) (p : Peer), e ≤ s.momentOf t →
    let clash := p.join.bind (s.checkEntry x.toNat)
    (s.grp.membership = .listening → s.grp.listenEnd = some e →
      Ends (.listenWindowEnd t) s fun s' =>
        s'.grp.membership = .joining ∧ s'.grp.listenEnd = none ∧ s'.port.flags.getLsbD 0 = true ∧
        s'.bus.q.join = some { payload := beBytes 7 s.ownRecord.encode.toNat, fails := 0, epoch := none } ∧
        s'.bus.q.status = some { payload := beBytes 4 s.ownAnnouncement.encode.toNat, fails := 0, epoch := none } ∧
        s'.grp.peers = s.grp.peers ∧ s'.grp.epoch = s.grp.epoch ∧ Kept [.bus, .grp] s s') ∧
    (s.grp.membership = .joining → s.grp.ownWindowEnd = some e →
      Ends (.ownRefusalWindowEnd t) s fun s' =>
        s'.grp.membership = (if s.checkSelf.isNone then .member else .refused) ∧ s'.grp.ownWindowEnd = none ∧
        s'.grp.refusal = (match s.checkSelf with
          | none => s.grp.refusal
          | some r => some { refuser := .self, reason := r.code }) ∧
        (s.checkSelf.isSome = true → s'.port.flags.getLsbD 1 = true ∧ s'.bus.q.status = none ∧ s'.bus.q.join = none) ∧
        s'.port.flags.getLsbD 0 = true ∧ s'.grp.epoch = s.grp.epoch ∧ Kept [.bus, .grp] s s') ∧
    (s.peer x.toNat = some p → p.state = .pending → p.windowEnd = some e →
      Ends (.entryWindowEnd t x) s fun s' =>
        s'.peer x.toNat = (match clash with
          | none => some { p with state := .member, windowEnd := none }
          | some r => if s.grp.membership.active then some { p with windowEnd := none, due := some r } else none) ∧
        (∀ n, n ≠ x.toNat → (s'.peer n).isSome = (s.peer n).isSome) ∧ s'.grp.membership = s.grp.membership ∧
        s'.grp.epoch = s.grp.epoch ∧ Kept [.grp] s s')) ∧
  (∀ (s : State) (t : Nat) (h : Rx) (p : Peer),
    s.takesFrom h = true → h.epoch = s.bus.startEpoch → s.grp.membership.keepsTable = true → s.ctl.st = .run →
    s.peer h.sender.toNat = some p → p.state = .silent →
    let clash := p.join.bind (s.checkEntry h.sender.toNat)
    Ends (.identReceived t h 0) s fun s' =>
      s'.peer h.sender.toNat = (match clash with
        | none => some { p with state := .member, heard := 0 }
        | some r => some { p with heard := 0, due := if s.grp.membership.active then some r else p.due }) ∧
      (clash = none → s'.grp.groupLead = s'.leadOfGroup ∧ s'.grp.groupHold = s'.holdOfGroup) ∧
      (∀ n, n ≠ h.sender.toNat → s'.peer n = s.peer n) ∧ s'.grp.membership = s.grp.membership ∧
      s'.grp.epoch = s.grp.epoch ∧ Kept [.bus, .grp] s s')

/-- The clashes of two records (R99): the reason is the first that applies, TILE_TAKEN, BAND, GEOMETRY, a position clash
judging the first two alone. The check of a JOIN from `x` finds nothing exactly where the record clashes neither with the
own record nor in position with an entry that is not SILENT, not owed a refusal, not the sender's own and has JOIN fields
(R99). The own record comes first, then the entries in heard order (R97). The checks at the ends of the windows and of a
SILENT entry heard again (R103, R104, R112; the order among several clashes is the model's choice, log 20). The own record
is free to join exactly where it clashes with no MEMBER entry that has JOIN fields, and a reason found is that of a clashing
entry before which, in heard order, none clashes. The record of `x` is free exactly where it clashes in position with no
MEMBER entry but its own and, at a MEMBER, not with the own record; a reason found is that of the first clashing entry in
heard order or, where no entry clashes, of the own record. -/
def Obligations.ClashesFound : Prop :=
  (∀ a b : JoinRec,
    let tile := a.col = b.col ∧ a.row = b.row
    let band := (a.row = b.row ∧ a.top ≠ b.top) ∨ (a.row ≠ b.row ∧ a.top = b.top)
    let geometry := a.rows ≠ b.rows ∨ a.period ≠ b.period ∨ a.minPeriod ≠ b.minPeriod
    (fullClash a b = some .tileTaken ↔ tile) ∧ (fullClash a b = some .band ↔ ¬ tile ∧ band) ∧
    (fullClash a b = some .geometry ↔ ¬ tile ∧ ¬ band ∧ geometry) ∧
    (fullClash a b = none ↔ ¬ tile ∧ ¬ band ∧ ¬ geometry) ∧
    (positionClash a b = none ↔ ¬ tile ∧ ¬ band) ∧
    (∀ r, positionClash a b = some r → fullClash a b = some r)) ∧
  (∀ (s : State) (x : Nat) (j : JoinRec),
    let counts (n : Nat) (p : Peer) (k : JoinRec) : Prop :=
      (n, p) ∈ s.grp.peers ∧ n ≠ x ∧ p.state ≠ .silent ∧ p.due = none ∧ p.join = some k
    (s.checkJoin x j = none ↔
      fullClash j s.ownRecord = none ∧ ∀ n p k, counts n p k → positionClash j k = none) ∧
    (∀ r, fullClash j s.ownRecord = some r → s.checkJoin x j = some r) ∧
    (∀ r, fullClash j s.ownRecord = none → s.checkJoin x j = some r →
      ∃ n p k, counts n p k ∧ positionClash j k = some r ∧
        ∀ n' p' k', counts n' p' k' → p'.order.getD 0 < p.order.getD 0 → positionClash j k' = none)) ∧
  (∀ (s : State) (x : Nat) (j : JoinRec) (r : Reason),
    let own := s.ownRecord
    let counts (n : Nat) (p : Peer) (k : JoinRec) : Prop := (n, p) ∈ s.grp.peers ∧ p.state = .member ∧ p.join = some k
    let earlier (p q : Peer) : Prop := p.order.getD 0 < q.order.getD 0
    (s.checkSelf = none ↔ ∀ n p k, counts n p k → fullClash own k = none) ∧
    (s.checkSelf = some r → ∃ n p k, counts n p k ∧ fullClash own k = some r ∧
      ∀ n' p' k', counts n' p' k' → earlier p' p → fullClash own k' = none) ∧
    (s.checkEntry x j = none ↔ (∀ n p k, counts n p k → n ≠ x → positionClash j k = none) ∧
      (s.grp.membership = .member → fullClash j own = none)) ∧
    (s.checkEntry x j = some r →
      (∃ n p k, counts n p k ∧ n ≠ x ∧ positionClash j k = some r ∧
        ∀ n' p' k', counts n' p' k' → n' ≠ x → earlier p' p → positionClash j k' = none) ∨
      ((∀ n p k, counts n p k → n ≠ x → positionClash j k = none) ∧ s.grp.membership = .member ∧
        fullClash j own = some r)))

/-- The group lead and the group hold (R125). The leads that count are those of the MEMBER entries' announcements in use,
the SOURCE_LOST ones aside, and the own lead in use unless the own announcement carries SOURCE_LOST, the present values
standing in for it before the first; the lead is at most H, and is the largest that counts as far as H allows, or the own
lead where none counts. The holds that count are those of the same entries, the own announced hold and the own hold limit in
use; the hold is the smallest of them, or the minimum frame period + 500 µs where that is larger. -/
def Obligations.GroupValuesBounded : Prop :=
  ∀ s : State,
    let h := s.cfg.profile.h
    let floor := s.cfg.profile.minPeriod + 50
    let announced (a : Ann) : Prop := ∃ n p, (n, p) ∈ s.grp.peers ∧ p.state = .member ∧ p.inUse = some a
    let lost := match s.grp.ownInUse with | some a => a.flags.sourceLost | none => s.src.lock != .locked
    let ownLead := match s.grp.ownInUse with | some a => a.lead.toNat | none => s.scan.ownLead
    let ownHold := match s.grp.ownInUse with | some a => a.hold.toNat | none => s.ownHold
    let leads (l : Nat) : Prop :=
      (∃ a, announced a ∧ a.flags.sourceLost = false ∧ l = a.lead.toNat) ∨ (lost = false ∧ l = ownLead)
    let holds (x : Nat) : Prop := (∃ a, announced a ∧ x = a.hold.toNat) ∨ x = ownHold ∨ x = s.scan.holdInUse
    s.leadOfGroup ≤ h ∧
    (∀ l, leads l → min h l ≤ s.leadOfGroup) ∧
    ((∃ l, leads l ∧ s.leadOfGroup = min h l) ∨ ((∀ l, ¬ leads l) ∧ s.leadOfGroup = min h s.scan.ownLead)) ∧
    floor ≤ s.holdOfGroup ∧
    (∀ x, holds x → s.holdOfGroup ≤ max floor x) ∧
    (∃ x, holds x ∧ s.holdOfGroup = max floor x)

/-! ### Departures, wakes, supplies and temperature -/

/-- The causes of a departure (R141, R146, R153, R156): the SLEEP command, 50 ms of low panel supply and a reading of 115 °C
queue their LEAVE and note the moment; a supply departure replaces a sleep departure, at once where that one's LEAVE has
ended. A heat departure replaces any other whose LEAVE has not ended; that it also takes back a supply departure's decision,
so that scans may start again, is the model's choice (log 39). Every block that the clause does not list as touched stays as
`Kept` says. -/
def Obligations.DeparturesBegin : Prop :=
  ∀ (s : State) (t : Nat) (d : Departure), (s.ctl.st = .run ∨ s.ctl.st = .standby) →
    let n := s.momentOf t
    let leave (code : Byte) : Option Queued := some { payload := [code], fails := 0, epoch := none }
    let pending (r : DepReason) : Departure := { reason := r, queuedAt := n, leaveEnded := false, decided := false }
    (s.ctl.departure = none →
      let u := s.afterTaking n 1
      Gives (.sleep t) s
        { u with
          ctl := { u.ctl with departure := some (pending .sleep), standbyPending := false }
          bus := { s.bus with q := { s.bus.q with leave := leave 1 } } }) ∧
    (s.ctl.departure = none → passed s.ctl.supplyFrom 50000000 n = true →
      Gives (.supplyLowTimerExpiry t) s
        { s with
          now := n
          ctl := { s.ctl with departure := some (pending .supply), standbyPending := false }
          bus := { s.bus with q := { s.bus.q with leave := leave 3 } } }) ∧
    (s.ctl.departure = some d → d.reason = .sleep → passed s.ctl.supplyFrom 50000000 n = true →
      Gives (.supplyLowTimerExpiry t) s
        { s with
          now := n
          ctl := { s.ctl with
            departure := some { pending .supply with leaveEnded := d.leaveEnded }, standbyPending := false }
          bus := { s.bus with
            q := { s.bus.q with leave := if d.leaveEnded then s.bus.q.leave else leave 3 } } }) ∧
    (∀ deg : Fin 36, s.ctl.departure.all (fun d => d.reason != .heat && !d.leaveEnded) = true → s.ctl.held = false →
      Ends (.temperatureReading t (115 + (deg.val : Int))) s fun s' =>
        s'.ctl.departure = some (pending .heat) ∧ s'.bus.q.leave = leave 2 ∧ s'.ctl.warm = true ∧ s'.ctl.st = s.ctl.st ∧
        s'.ctl.standbyPending = false ∧ s'.grp.epoch = s.grp.epoch ∧ Kept [.scan, .bus, .grp, .ctl] s s')

/-- The entries that departures reach (R48, R85, R92, R94, R141, R147, R156, R158), once the LEAVE has ended or 2 ms have
passed: SLEEP by command between scans and off the wire, SLEEP by supply with the scan cut, OVERHEAT with the scan cut and
the register released. While a notice is in the register a SUPPLY departure cuts the scan and waits, its strobe off and the
scan state WAIT or HOLD meanwhile, which is the model's choice (log 35). Before that nothing changes. Every block that the
clause does not list as touched stays as `Kept` says. -/
def Obligations.DeparturesEnter : Prop :=
  ∀ (s : State) (t : Nat) (d : Departure), s.ctl.departure = some d → (s.ctl.st = .run ∨ s.ctl.st = .standby) →
    s.intakeFits = true →
    let n := s.momentOf t
    let ripe := d.leaveEnded || decide (d.queuedAt + 2000000 ≤ n)
    (ripe = false → Gives (.departureEntry t) s { s with now := n }) ∧
    (ripe = true → d.reason = .sleep → (s.scan.prog.isSome = true ∨ s.bus.reg.isSome = true) →
      Gives (.departureEntry t) s { s with now := n }) ∧
    (ripe = true → d.reason = .sleep → s.scan.prog = none → s.bus.reg = none → s.grp.membership ≠ .outside →
      Ends (.departureEntry t) s fun s' =>
        s'.ctl.st = .sleep ∧ s'.ctl.sleepCause = .command ∧ s'.ctl.forcedListen = false ∧ s'.bus.engine = .off ∧
        s'.ctl.det = (if s.cfg.followWake then .waiting else .off) ∧ WentDark s s' ∧
        Kept [.src, .lq, .mem, .scan, .bus, .grp, .ctl, .ovl, .lag] s s') ∧
    (ripe = true → d.reason = .supply → s.bus.reg = none → s.grp.membership ≠ .outside →
      Ends (.departureEntry t) s fun s' =>
        s'.ctl.st = .sleep ∧ s'.ctl.sleepCause = .forced ∧ s'.ctl.forcedListen = true ∧ s'.bus.engine = .off ∧
        s'.ctl.det = .waiting ∧ WentDark s s' ∧ Kept [.src, .lq, .mem, .scan, .bus, .grp, .ctl, .ovl, .lag] s s') ∧
    (ripe = true → d.reason = .supply → s.bus.reg.isSome = true →
      Ends (.departureEntry t) s fun s' =>
        s'.ctl = { s.ctl with departure := some { d with decided := true } } ∧ s'.scan.prog = none ∧
        s'.scan.st = (if s.scan.prog = none then s.scan.st else if s.scan.waiting.isSome then .wait else .hold) ∧
        s'.scan.strobe = (if s.scan.prog = none then s.scan.strobe else .off) ∧
        s'.scan.margin = (if s.scan.prog.isSome && s.scan.st == .scan && s.scan.overtake then min 32 (s.scan.margin + 2)
          else s.scan.margin) ∧
        s'.scan.waiting = s.scan.waiting ∧ s'.scan.shown = s.scan.shown ∧ s'.grp.membership = s.grp.membership ∧
        s'.grp.epoch = s.grp.epoch ∧ Kept [.lq, .scan, .grp, .ctl] s s') ∧
    (ripe = true → d.reason = .heat → s.grp.membership ≠ .outside →
      Ends (.departureEntry t) s fun s' =>
        s'.ctl.st = .overheat ∧ s'.port.flags.getLsbD 6 = true ∧ s'.bus.engine = .waitIdle ∧ s'.ctl.det = .off ∧
        s'.ctl.sleepCause = s.ctl.sleepCause ∧ WentDark s s' ∧
        Kept [.src, .lq, .mem, .scan, .bus, .grp, .ctl, .ovl, .lag] s s')

/-- The sleep wake path up to the decode window (R147 to R149): a pattern within its tolerances powers the receiver, 200 µs
later the bit engine is in WAIT_IDLE and the 2 ms window is open, and its expiry goes back to the detector; a pattern
rejected or timed out leaves the detector waiting. Wakes from SLEEP (R92, R94, R149, R151, R152, R158): the WAKE command,
and in a decode window an accepted WAKE whose mask has the own bit, bring the station to RUN in its return state with WOKE
and the cause, or to OVERHEAT, with WOKE and the last wake cause kept, at 115 °C or more. Every block that the clause does
not list as touched stays as `Kept` says. -/
def Obligations.SleepWakePath : Prop :=
  (∀ (s : State) (t r1 r2 r3 a : Nat), s.ctl.st = .sleep →
    let n := s.momentOf t
    let good := patternOk r1 r2 r3 && decide (r1 + r2 + r3 ≤ 1000000)
    (s.ctl.det = .waiting →
      Gives (.wakePatternAccepted t r1 r2 r3) s
        { s with now := n, ctl := { s.ctl with det := if good then .powering n else .waiting } } ∧
      Gives (.wakePatternRejected t) s { s with now := n } ∧
      Gives (.wakePatternTimeout t) s { s with now := n }) ∧
    (s.ctl.det = .powering a → a + 200000 ≤ n →
      Gives (.fullReceiverUp t) s
        { s with
          now := n
          bus := { s.bus with engine := .waitIdle, idleCount := 0, runFrom := some n, recessiveFrom := some n }
          ctl := { s.ctl with det := .window n } }) ∧
    (s.ctl.det = .window a → a + 2000000 ≤ n →
      Gives (.decodeWindowExpiry t) s
        (s.detectorOnly n (if s.cfg.followWake || s.ctl.forcedListen then .waiting else .off)))) ∧
  (∀ (s : State) (t a : Nat) (h : Rx) (mask : BitVec 16), s.ctl.st = .sleep → s.grp.membership = .outside →
    let n := s.momentOf t
    (s.port.arg.toNat ≤ 16 → s.ctl.temp < 115 →
      Ends (.wake t) s fun s' =>
        s'.ctl.wakeCause = .command ∧ s'.port.flags.getLsbD 10 = true ∧ s'.ctl.forcedListen = false ∧ CameUp s s' n ∧
        Kept [.src, .bus, .grp, .ctl, .port] s s') ∧
    (s.port.arg.toNat ≤ 16 → 115 ≤ s.ctl.temp →
      Ends (.wake t) s fun s' =>
        s'.ctl.st = .overheat ∧ s'.port.flags.getLsbD 6 = true ∧ s'.port.flags.getLsbD 10 = true ∧
        s'.ctl.wakeCause = s.ctl.wakeCause ∧
        s'.bus.engine = .waitIdle ∧ s'.grp.membership = .outside ∧
        Kept [.src, .lq, .mem, .scan, .bus, .grp, .ctl, .ovl, .lag, .port] s s') ∧
    (s.ctl.det = .window a → s.hears = true → h.sender ≠ s.ctl.station → mask.getLsbD s.ctl.station.toNat = true →
      115 ≤ s.ctl.temp →
      Ends (.wakeReceived t h mask) s fun s' =>
        s'.ctl.st = .overheat ∧ s'.port.flags.getLsbD 6 = true ∧ s'.port.flags.getLsbD 10 = true ∧
        s'.ctl.wakeCause = s.ctl.wakeCause ∧ s'.grp.membership = .outside ∧
        Kept [.src, .lq, .mem, .scan, .bus, .grp, .ctl, .ovl, .lag] s s') ∧
    (s.ctl.det = .window a → s.hears = true → h.sender ≠ s.ctl.station → s.ctl.temp < 115 →
      mask.getLsbD s.ctl.station.toNat = true →
      Ends (.wakeReceived t h mask) s fun s' =>
        s'.ctl.wakeCause = .notice ∧ s'.port.flags.getLsbD 10 = true ∧ CameUp s s' n ∧
        Kept [.src, .bus, .grp, .ctl] s s'))

/-- The fail-safe wake (R149 to R151): the discarded notice of a decode window that brings the sleep-path failure count to 4
wakes the station with cause WAKE_FAILSAFE, or into OVERHEAT at 115 °C or more; one that does not counts. An accepted notice
that does not wake the station, of any kind and payload, sets the count to 0. The count is 0 after each entry to SLEEP and
each wake, and after the resets; a window that expires leaves it. Every block that the clause does not list as touched stays
as `Kept` says. -/
def Obligations.FailsafeWake : Prop :=
  (∀ (s : State) (t a r1 r2 r3 : Nat) (h : Rx) (b : Byte) (join : BitVec 56) (status : BitVec 32) (mask : BitVec 16)
    (e : BadEnd) (p : FormPoint) (dominant : Bool) (i : Instr),
    s.ctl.st = .sleep → s.ctl.det = .window a → s.hears = true → s.grp.membership = .outside → s.ctl.sleepFails < 4 →
    patternOk r1 r2 r3 = false →
    (i ∈ [Instr.stuffingError t dominant, .noticeCheckFailure t e, .noticeFormError p, .preambleRecognised t r1 r2 r3] →
      (s.ctl.sleepFails = 3 → s.ctl.temp < 115 →
        Ends i s fun s' =>
          s'.ctl.st = .run ∧ s'.ctl.wakeCause = .failsafe ∧ s'.port.flags.getLsbD 10 = true ∧ s'.ctl.sleepFails = 0 ∧
          Kept [.src, .bus, .grp, .ctl] s s') ∧
      (s.ctl.sleepFails = 3 → 115 ≤ s.ctl.temp →
        Ends i s fun s' =>
          s'.ctl.st = .overheat ∧ s'.port.flags.getLsbD 10 = true ∧ s'.ctl.sleepFails = 0 ∧
          Kept [.src, .lq, .mem, .scan, .bus, .grp, .ctl, .ovl, .lag] s s') ∧
      (s.ctl.sleepFails < 3 →
        Ends i s fun s' =>
          s'.ctl.st = .sleep ∧ s'.ctl.sleepFails = s.ctl.sleepFails + 1 ∧ s'.bus.engine = .off ∧
          s'.ctl.det = (if s.cfg.followWake || s.ctl.forcedListen then .waiting else .off) ∧ Kept [.bus, .ctl] s s')) ∧
    (h.sender ≠ s.ctl.station → mask.getLsbD s.ctl.station.toNat = false →
      i ∈ [Instr.repeatReceived t h, .refuseReceived t h b, .leaveReceived t h b, .standbyReceived t h,
          .countReceived t h b, .identReceived t h b, .wakeReceived t h mask, .joinReceived t h join,
          .statusReceived t h status] →
      Ends i s fun s' =>
        s'.ctl.st = .sleep ∧ s'.ctl.sleepFails = 0 ∧ s'.bus.engine = .off ∧ s'.port.flags = s.port.flags ∧
        s'.ctl.det = (if s.cfg.followWake || s.ctl.forcedListen then .waiting else .off) ∧ Kept [.bus, .ctl] s s') ∧
    (a + 2000000 ≤ s.momentOf t →
      Ends (.decodeWindowExpiry t) s fun s' =>
        s'.ctl.st = .sleep ∧ s'.ctl.sleepFails = s.ctl.sleepFails ∧ Kept [.bus, .ctl] s s')) ∧
  (∀ (i : Instr) (s s' : State), exec i s = .next s' → s'.ctl.st ≠ s.ctl.st → (s'.ctl.st = .sleep ∨ s'.ctl.st = .run) →
    s'.ctl.sleepFails = 0) ∧
  (∀ (s : State) (t : Nat) (straps : StationNo) (i : Instr),
    ((i = .reset t straps ∧ s.responding = true) ∨ (i = .resetPinAssert t ∧ s.ctl.st ≠ .off) ∨
      (i = .resetPinRelease t straps ∧ s.ctl.held = true ∧ s.ctl.resetLow = true) ∨
      (i = .powerGood t straps ∧ s.ctl.st = .off) ∨ i = .powerLoss t) →
    Ends i s fun s' => s'.ctl.sleepFails = 0) ∧
  State.reset.ctl.sleepFails = 0

/-- The monitors (R65, R142, R153, R155 to R157, R163): the supply sense runs its timer in RUN and STANDBY alone; WARM is
set at 100 °C, cleared below 90 °C, and moves the shadow strobe width; a reading of 115 °C flags OVERHEAT in HALTED and
SLEEP where the one before was below it, after the reset reading too (log 32); a reading below 95 °C ends OVERHEAT, where a
bus that was lost stays LOST over the entry to RUN, which is deduced (log 31, where R92 gives WAIT_IDLE); the identify timer
ends at its moment. The standby condition (R142): judged after every command (log 19), SILENT_RUN_TIME_REACHED among them;
where it has become true, STANDBY is queued as NEW. Nothing else changes. The ports in each station state (R44, R138, R139,
R181, R188, R191): PANEL_EN; what the panel port carries; the configuration port, idle with its chip select high and clock
low except in OFF and in BOOT before the one read of a station not held in reset; where the service port responds; and ATTN,
low exactly there while a flag and its mask are set. Every block that the clause does not list as touched stays as `Kept`
says. -/
def Obligations.MonitorsAct : Prop :=
  (∀ (s : State) (t : Nat) (low : Bool) (d : Int),
    let n := s.momentOf t
    let warm := decide (100 ≤ d) || (s.ctl.warm && decide (90 ≤ d))
    let warmed : Scan := { s.scan with shadow := { s.scan.shadow with
      strobe := if warm == s.ctl.warm then s.scan.shadow.strobe
        else if warm then s.cfg.profile.hotStrobe else s.cfg.profile.coldStrobe } }
    Gives (.supplySenseChange t low) s
      { s with
        now := n
        ctl := { s.ctl with
          senseLow := low
          supplyFrom := if low && (s.ctl.st == .run || s.ctl.st == .standby) then s.ctl.supplyFrom.or (some n) else none } } ∧
    (s.ovl.identifyUntil ≠ 0 → s.ovl.identifyUntil ≤ n →
      Gives (.identifyTimerExpiry t) s { s with now := n, ovl := { s.ovl with identifyUntil := 0 } }) ∧
    ((s.ctl.st = .off ∨ s.ctl.held = true) → Gives (.temperatureReading t d) s { s with now := n }) ∧
    (s.ctl.st ≠ .off → s.ctl.held = false → (s.ctl.st = .overheat → 95 ≤ d) →
      ((s.ctl.st = .run ∨ s.ctl.st = .standby) → d < 115) →
      Ends (.temperatureReading t d) s fun s' =>
        s'.ctl = { s.ctl with temp := d, warm := warm } ∧
        s'.scan = warmed ∧
        (warm = true → s.ctl.warm = false → s'.port.flags.getLsbD 5 = true) ∧
        ((s.ctl.st = .halted ∨ s.ctl.st = .sleep) → 115 ≤ d → s.ctl.temp < 115 → s'.port.flags.getLsbD 6 = true) ∧
        s'.grp.membership = s.grp.membership ∧ s'.grp.epoch = s.grp.epoch ∧ Kept [.scan, .grp, .ctl] s s') ∧
    (s.ctl.st = .overheat → s.ctl.held = false → d < 95 → s.grp.membership = .outside →
      Ends (.temperatureReading t d) s fun s' =>
        s'.ctl.wakeCause = s.ctl.wakeCause ∧ (s.bus.engine = .lost → s'.bus.engine = .lost) ∧ s'.ctl.warm = warm ∧ CameUp { s with scan := warmed } s' n ∧
        Kept [.src, .scan, .bus, .grp, .ctl] s s')) ∧
  (∀ (s : State) (t : Nat),
    Gives (.silentRunTimeReached t) s { s with now := s.momentOf t } ∧
    (s.ctl.st = .run → s.ctl.departure = none → s.grp.membership = .member →
      passed s.ctl.silentFrom 200000000 (s.momentOf t) = true →
      s.grp.peers.all (fun e => e.2.state != .member || e.2.inUse.any (·.flags.sourceLost)) = true →
      s.judged.standby = false →
      Ends (.silentRunTimeReached t) s fun s' =>
        s'.bus.q.standby = some { payload := [], fails := 0, epoch := none } ∧ s'.judged.standby = true ∧ Kept [] s s')) ∧
  (∀ s : State,
    let st := s.ctl.st
    (s.panelEn = true ↔ st = .run ∨ st = .standby ∨ st = .halted) ∧
    (s.responding = true ↔ st ≠ .off ∧ st ≠ .boot) ∧
    (s.panelMode = .undriven ↔ st = .off) ∧ (s.panelMode = .black ↔ st = .boot ∨ st = .standby) ∧
    (s.panelMode = .highZ ↔ st = .sleep ∨ st = .overheat) ∧
    (s.panelMode = .idlePasses ↔ st = .halted ∨ (st = .run ∧ s.scan.prog = none ∧ s.scan.lastStart = none)) ∧
    (s.panelMode = .scanning ↔ st = .run ∧ s.scan.prog.isSome = true) ∧
    (s.panelMode = .held ↔ st = .run ∧ s.scan.prog = none ∧ s.scan.lastStart.isSome = true) ∧
    (s.configPort = .undriven ↔ st = .off) ∧
    (s.configPort = .readsImage ↔ st = .boot ∧ s.ctl.held = false ∧ s.ldr.imageRead = false) ∧
    (s.configPort = .idle ↔ st ≠ .off ∧ (st = .boot → s.ctl.held = true ∨ s.ldr.imageRead = true)) ∧
    ConfigPort.idle.levels = some (true, false) ∧ ConfigPort.undriven.levels = none ∧
    (s.attn = true ↔ st ≠ .off ∧ st ≠ .boot ∧ ∃ k, s.port.flags.getLsbD k = true ∧ s.port.masks.getLsbD k = true) ∧
    (s.driverEnabled = true ↔ (st = .run ∨ st = .standby) ∧ s.bus.mute = .enabled ∧ s.grp.membership ≠ .listener ∧
      s.grp.membership ≠ .duplicate))

/-! ### The service port -/

/-- The commands that every responding state takes (R174, R192 to R194), outside SLEEP: FREEZE, THAW, CLEAR and CLEAR_FAULT,
each with its code recorded and the forced-listen latch cleared. Nothing else changes. A command taken in SLEEP (R147), here
THAW and CLEAR_FAULT: a forced sleeper without follow-wake stops wake-listening, the detector and the receiver going off;
the station keeps sleeping. -/
def Obligations.LocalCommandsTaken : Prop :=
  (∀ (s : State) (t : Nat), s.responding = true → s.ctl.st ≠ .sleep →
    let u (code : BitVec 4) := s.afterTaking (s.momentOf t) code
    Gives (.freeze t) s { u 5 with lag := { s.lag with frozen := true, cause := .localCmd } } ∧
    Gives (.thaw t) s { u 6 with lag := { s.lag with frozen := false, cause := .localCmd } } ∧
    Gives (.clear t) s
      { u 7 with
        lag := { s.lag with
          c0 := { s.lag.c0 with value := 0 }, c1 := { s.lag.c1 with value := 0 }, c2 := { s.lag.c2 with value := 0 }
          c3 := { s.lag.c3 with value := 0 }, frames := 0, repeats := 0, lagSum := 0, lagMax := 0, ovf := 0 } } ∧
    Gives (.clearFault t) s
      { u 11 with
        src := { s.src with skips := 0 }
        bus := { s.bus with muteCount := 0 }
        ctl := { (u 11).ctl with resetCause := .none, sleepCause := .none, wakeCause := .none } }) ∧
  (∀ (s : State) (t : Nat), s.ctl.st = .sleep → s.cfg.followWake = false →
    let u (code : BitVec 4) := (s.afterTaking (s.momentOf t) code).detectorOnly (s.momentOf t) .off
    Gives (.thaw t) s { u 6 with lag := { s.lag with frozen := false, cause := .localCmd } } ∧
    Gives (.clearFault t) s
      { u 11 with
        src := { s.src with skips := 0 }
        bus := { (u 11).bus with muteCount := 0 }
        ctl := { (u 11).ctl with resetCause := .none, sleepCause := .none, wakeCause := .none } })

/-- The commands that queue a notice (R82, R109, R152, R165, R175): the group commands of a MEMBER queue their COUNT,
WAITING; IDENTIFY starts identify mode here and queues IDENT, or with 0 ends it and withdraws a waiting one; WAKE in RUN
queues WAKE with the mask of its argument. REJOIN by membership state (R109, R110): a REFUSED station listens again, a
LISTENING one starts its window again, a MEMBER or JOINING one queues LEAVE with reason COMMAND, withdraws its role notices
and listens, its table kept. WAKE in STANDBY with the own bit returns the station to RUN (R145, R152). Every block that the
clause does not list as touched stays as `Kept` says. -/
def Obligations.QueuingCommandsTaken : Prop :=
  (∀ (s : State) (t : Nat), (s.ctl.st = .run ∨ s.ctl.st = .standby) →
    let n := s.momentOf t
    let u (code : BitVec 4) := s.afterTaking n code
    let arg := s.port.arg
    let one (payload : List Byte) : Option Queued := some { payload := payload, fails := 0, epoch := none }
    let mask : BitVec 16 := if arg = 0 then 0xFFFF#16 else BitVec.twoPow 16 (arg.toNat - 1)
    let counted (code : BitVec 4) (action : Byte) : State :=
      { u code with
        bus := { s.bus with q := { s.bus.q with count := one [action] } }, lag := { s.lag with outcome := .waiting } }
    (s.grp.membership = .member →
      Gives (.groupFreeze t) s (counted 8 1) ∧ Gives (.groupThaw t) s (counted 9 2) ∧
      Gives (.groupClear t) s (counted 10 3)) ∧
    (1 ≤ arg.toNat → arg.toNat ≤ 60 →
      Gives (.identify t) s
        { u 4 with
          ovl := { s.ovl with identifyUntil := n + arg.toNat * 1000000000 }
          bus := { s.bus with q := { s.bus.q with ident := one [arg] } } }) ∧
    (arg = 0 →
      Gives (.identify t) s
        { u 4 with
          ovl := { s.ovl with identifyUntil := 0 }
          bus := { s.bus with
            q := { s.bus.q with ident := none }
            reg := s.bus.reg.map fun r => if r.kind = .ident then { r with withdrawn := true } else r } }) ∧
    (s.ctl.st = .run → s.ctl.departure = none → arg.toNat ≤ 16 →
      Gives (.wake t) s
        { u 2 with
          bus := { s.bus with q := { s.bus.q with wake := one [mask.extractLsb' 8 8, mask.extractLsb' 0 8] } } })) ∧
  (∀ (s : State) (t : Nat), s.responding = true → s.ctl.departure = none →
    let m := s.grp.membership
    let mask : BitVec 16 := if s.port.arg = 0 then 0xFFFF#16 else BitVec.twoPow 16 (s.port.arg.toNat - 1)
    ((m = .refused ∨ m = .listening ∨ m = .member ∨ m = .joining) →
      Ends (.rejoin t) s fun s' =>
        s'.grp.membership = .listening ∧ s'.grp.listenEnd = some (s.momentOf t + 64000000) ∧
        s'.grp.listenAdopted = false ∧ s'.port.lastCmd = 3 ∧
        ((m = .member ∨ m = .joining) →
          s'.bus.q.leave = some { payload := [4], fails := 0, epoch := none } ∧ s'.bus.q.join = none ∧
          s'.bus.q.status = none ∧ s'.bus.q.refuse = none ∧ s'.bus.q.standby = none ∧ s'.grp.ownWindowEnd = none) ∧
        (m ≠ .listening → s'.port.flags.getLsbD 0 = true) ∧ s'.grp.peers.map (·.1) = s.grp.peers.map (·.1) ∧
        s'.grp.epoch = s.grp.epoch ∧ s'.ctl.st = s.ctl.st ∧ Kept [.bus, .grp, .ctl, .port] s s') ∧
    (s.ctl.st = .standby → s.port.arg.toNat ≤ 16 → mask.getLsbD s.ctl.station.toNat = true →
      Ends (.wake t) s fun s' =>
        s'.ctl.st = .run ∧ s'.ctl.wakeCause = .command ∧ s'.port.flags.getLsbD 10 = true ∧ s'.bus.q.wake.isSome = true ∧
        s'.src.lock = .search ∧ s'.src.silenceFrom = some (s.momentOf t) ∧ s'.grp.membership = m ∧
        s'.grp.epoch = s.grp.epoch ∧ s'.grp.peers = s.grp.peers ∧ s'.grp.epoch = s.grp.epoch ∧
        Kept [.src, .bus, .grp, .ctl, .port] s s'))

/-- A refused command (R192, R193): an unknown code, an argument out of range, or a state that its row refuses sets
CMD_REFUSED and does nothing else but move the pointer and give up the holding register, as the write itself does. That an
argument above 16 is refused in SLEEP too is deduced (log 32). In OFF and BOOT the service port answers nothing (R188,
R191): reads, writes and commands change nothing. A command written as a byte at 0x15 is the command of its code (R192,
R193): each code of the table, and a code outside it. A RESET so written reads the straps as last reported (log 24). -/
def Obligations.CommandsRefused : Prop :=
  (∀ (s : State) (t : Nat) (code : Byte) (i : Instr), s.responding = true →
    let awake := s.ctl.st == .run || s.ctl.st == .standby
    let free := s.ctl.departure.isNone
    let m := s.grp.membership
    ((i = .unknownCommand t code ∧ (code = 0 ∨ 12 < code.toNat)) ∨
      (i = .sleep t ∧ (awake && free) = false) ∨
      (i = .wake t ∧ (16 < s.port.arg.toNat ∨ (s.ctl.st ≠ .sleep ∧ (awake && free) = false))) ∨
      (i = .rejoin t ∧ ((m ≠ .refused ∧ m ≠ .member ∧ m ≠ .joining ∧ m ≠ .listening) ∨ free = false)) ∨
      (i = .identify t ∧ (awake = false ∨ 60 < s.port.arg.toNat)) ∨
      (i ∈ [Instr.groupFreeze t, .groupThaw t, .groupClear t] ∧ (awake = false ∨ m ≠ .member))) →
    Gives i s
      { s with now := s.momentOf t, port := { s.port with ptr := 0x16, holding := none, cmdRefused := true } }) ∧
  (∀ (s : State) (t : Nat) (b : Byte) (oa ob : Option Byte) (high : Bool) (straps : StationNo) (i : Instr),
    (s.ctl.st = .off ∨ s.ctl.st = .boot) →
    i ∈ [Instr.sleep t, .wake t, .rejoin t, .identify t, .freeze t, .thaw t, .clear t, .groupFreeze t, .groupThaw t,
        .groupClear t, .clearFault t, .reset t straps, .unknownCommand t b, .imageByteRead t, .imageIndexWrite t b,
        .snapshotLatchRead t oa, .flagClearWrite t high b, .maskWrite t high b, .counterValueWrite t oa b,
        .counterSettingsWrite t oa b, .registerWrite t oa ob] →
    Gives i s { s with now := s.momentOf t }) ∧
  (∀ (s : State) (t : Nat) (b : Byte),
    let write := exec (.registerWrite t (some 0x15) (some b)) s
    (b = 1 → write = exec (.sleep t) s) ∧ (b = 2 → write = exec (.wake t) s) ∧ (b = 3 → write = exec (.rejoin t) s) ∧
    (b = 4 → write = exec (.identify t) s) ∧ (b = 5 → write = exec (.freeze t) s) ∧
    (b = 6 → write = exec (.thaw t) s) ∧ (b = 7 → write = exec (.clear t) s) ∧
    (b = 8 → write = exec (.groupFreeze t) s) ∧ (b = 9 → write = exec (.groupThaw t) s) ∧
    (b = 10 → write = exec (.groupClear t) s) ∧ (b = 11 → write = exec (.clearFault t) s) ∧
    (b = 12 → write = exec (.reset t s.ctl.strapPins) s) ∧
    ((b = 0 ∨ 12 < b.toNat) → write = exec (.unknownCommand t b) s))

/-- The one-byte writes (R188, R190, R191, R194): a 1 clears a flag, CMD_REFUSED or an overflow flag and a 0 leaves it, a
mask byte replaces its bits, the image index is taken modulo 64, the argument and the pointer take their byte; a read-only
location ignores it. The pointer moves on. The pointer (R188): a write transaction sets it with its first byte, and what is
then read or written is read or written at the pointer, as by a transaction that begins with the pointer there already. A
counter's value, five bytes, LAG_MAX three, written lowest first (R173, R190): the first byte loads the holding register
with the present value and takes its place in it, as does a later byte where the register does not hold that counter; the
write of the last byte gives the counter the whole at once. Until then the counter is unchanged, and the holding register is
then empty. Settings, overflow flags and the other values stay. A settings write (R173, R195): the first byte gives select,
qualifier and invert, the second threshold and overflow action, each clamped as the rule says, and each sets the edge memory
to "not met". Values and the other counters stay. Every block that the clause does not list as touched stays as `Kept` says.
-/
def Obligations.PortWrites : Prop :=
  (∀ (s : State) (t : Nat) (b : Byte), s.responding = true → s.port.holding = none →
    let n := s.momentOf t
    let p := s.port
    Gives (.flagClearWrite t false b) s
      { s with now := n, port := { p with ptr := 0x11, flags := p.flags &&& ~~~(b.setWidth 11) } } ∧
    Gives (.flagClearWrite t true b) s
      { s with now := n, port := { p with ptr := 0x12, flags := p.flags &&& ~~~((b.setWidth 11) <<< 8) } } ∧
    Gives (.maskWrite t false b) s
      { s with now := n, port := { p with ptr := 0x13, masks := (p.masks &&& 0x700#11) ||| b.setWidth 11 } } ∧
    Gives (.maskWrite t true b) s
      { s with now := n, port := { p with ptr := 0x14, masks := (p.masks &&& 0x0FF#11) ||| ((b.setWidth 11) <<< 8) } } ∧
    Gives (.imageIndexWrite t b) s { s with now := n, port := { p with ptr := 0x74, imageIdx := b.setWidth 6 } } ∧
    Gives (.registerWrite t (some b) none) s { s with now := n, port := { p with ptr := b } } ∧
    Gives (.registerWrite t (some 0x14) (some b)) s { s with now := n, port := { p with ptr := 0x15, arg := b } } ∧
    Gives (.registerWrite t (some 0x20) (some b)) s { s with now := n, port := { p with ptr := 0x21 } } ∧
    Gives (.registerWrite t (some 0x16) (some b)) s
      { s with now := n, port := { p with ptr := 0x17, cmdRefused := p.cmdRefused && !b.getLsbD 0 } } ∧
    Gives (.registerWrite t (some 0x6E) (some b)) s
      { s with
        now := n, port := { p with ptr := 0x6F }, lag := { s.lag with ovf := s.lag.ovf &&& ~~~(b.setWidth 7) } }) ∧
  (∀ (s : State) (t : Nat) (a b : Byte) (ob : Option Byte), s.responding = true →
    let there := { s with port := { s.port with ptr := a } }
    exec (.registerWrite t (some a) ob) s = exec (.registerWrite t none ob) there ∧
    exec (.snapshotLatchRead t (some a)) s = exec (.snapshotLatchRead t none) there ∧
    exec (.imageByteRead t) s = exec (.snapshotLatchRead t none) { s with port := { s.port with ptr := 0x74 } } ∧
    exec (.flagClearWrite t false b) s = exec (.registerWrite t (some 0x10) (some b)) s ∧
    exec (.maskWrite t true b) s = exec (.registerWrite t (some 0x13) (some b)) s ∧
    (0x40 ≤ a.toNat → a.toNat ≤ 0x65 →
      exec (.counterValueWrite t (some a) b) s = exec (.registerWrite t (some a) (some b)) s ∧
      exec (.counterValueWrite t (some a) b) s = exec (.counterValueWrite t none b) there) ∧
    (0x66 ≤ a.toNat → a.toNat ≤ 0x6D →
      exec (.counterSettingsWrite t (some a) b) s = exec (.registerWrite t (some a) (some b)) s ∧
      exec (.counterSettingsWrite t (some a) b) s = exec (.counterSettingsWrite t none b) there)) ∧
  (∀ (s : State) (t base len v k : Nat) (b : Byte), s.responding = true → (base, len, v) ∈ s.lag.values → k < len →
    let n := s.momentOf t
    let held := (s.port.holding.filter fun h => h.base == base && k != 0).map (·.bytes)
    let bytes := (held.getD (leBytes len v)).set k b
    let write := Instr.counterValueWrite t (some (BitVec.ofNat 8 (base + k))) b
    (k + 1 < len →
      Gives write s
        { s with
          now := n
          port := { s.port with
            ptr := BitVec.ofNat 8 (base + k + 1), holding := some { base := base, bytes := bytes } } }) ∧
    (k + 1 = len →
      Ends write s fun s' =>
        s'.lag.values = s.lag.values.map (fun x =>
          if x.1 = base then (base, len, leNat bytes % 256 ^ len) else x) ∧
        LagKept s.lag s'.lag ∧ s'.lag.ovf = s.lag.ovf ∧ s'.lag.frozen = s.lag.frozen ∧ s'.lag.cause = s.lag.cause ∧
        s'.port = { s.port with ptr := BitVec.ofNat 8 (base + k + 1), holding := none } ∧ Kept [.lag, .port] s s')) ∧
  (∀ (s : State) (t : Nat) (b : Byte), s.responding = true → s.port.holding = none →
    let n := s.momentOf t
    let select := (b.extractLsb' 0 5).toNat
    let c := s.lag.c0
    let d := s.lag.c3
    Gives (.counterSettingsWrite t (some 0x66) b) s
      { s with
        now := n
        port := { s.port with ptr := 0x67 }
        lag := { s.lag with
          c0 := { c with
            select := if select ≤ 16 then select else 0
            qual := if b.extractLsb' 5 2 = 1#2 then .threshold else if b.extractLsb' 5 2 = 2#2 then .edge else .plain
            invert := b.getLsbD 7, met := false } } } ∧
    Gives (.counterSettingsWrite t (some 0x6D) b) s
      { s with
        now := n
        port := { s.port with ptr := 0x6E }
        lag := { s.lag with
          c3 := { d with
            threshold := min 48 (b.extractLsb' 0 6).toNat
            action := if b.extractLsb' 6 2 = 1#2 then .localStop else if b.extractLsb' 6 2 = 2#2 then .groupStop
              else .none
            met := false } } })

/-- The reads (R188, R189, R194): the first byte of a multi-byte value latches the value and returns that byte, a later byte
of the latched value comes from the latch, every other byte is read live, and the pointer moves on; a read of 0x74 leaves
the pointer and moves the image index. Nothing else changes. The map of the service port (R189, R195), location by location:
codes and values at their places, the lowest byte of a multi-byte value first. The map is 256 bytes long. While no pair is
latched 0x0F reads 0 for digit and letter, the model's choice (log 40). A peer-table entry as the map shows it (R195), and
the station's own: state and place, heard order with the refusal due and the window, epochs since heard, and the
announcement in use with the effective epoch of the pending one. The group action list shows the nearer effective epoch
first. -/
def Obligations.PortReads : Prop :=
  (∀ (s : State) (t : Nat) (a : Byte) (v : Nat × Nat) (l : Held), s.responding = true →
    let n := s.momentOf t
    let s1 := { s with now := n }
    let p := s.port
    (a ≠ 0x74 → valueOf a.toNat = none →
      Gives (.snapshotLatchRead t (some a)) s { s1 with port := { p with readData := s1.liveByte a.toNat, ptr := a + 1 } }) ∧
    (valueOf a.toNat = some v → a.toNat = v.1 →
      Gives (.snapshotLatchRead t (some a)) s
        { s1 with
          port := { p with
            readData := s1.liveByte a.toNat, ptr := a + 1
            latch := some { base := v.1, bytes := (s1.portBytes.drop v.1).take v.2 } } }) ∧
    (valueOf a.toNat = some v → a.toNat ≠ v.1 → p.latch = some l → l.base = v.1 →
      Gives (.snapshotLatchRead t (some a)) s
        { s1 with port := { p with readData := (l.bytes[a.toNat - v.1]?).getD 0, ptr := a + 1 } }) ∧
    (valueOf a.toNat = some v → a.toNat ≠ v.1 → p.latch.all (fun l => l.base != v.1) = true →
      Gives (.snapshotLatchRead t (some a)) s { s1 with port := { p with readData := s1.liveByte a.toNat, ptr := a + 1 } }) ∧
    Gives (.imageByteRead t) s
      { s1 with port := { p with readData := s.imageAtIndex, ptr := 0x74, imageIdx := p.imageIdx + 1 } }) ∧
  (∀ s : State,
    let at1 (a v : Nat) : Prop := (s.liveByte a).toNat = v % 256
    let at2 (a v : Nat) : Prop := at1 a v ∧ at1 (a + 1) (v / 256)
    let some? (b : Bool) (k : Nat) : Nat := if b then k else 0
    let lead (a : Ann) : Nat := a.lead.toNat + some? a.flags.sourceLost 2048 + some? a.flags.warm 4096 +
      some? a.flags.overrun 8192 + some? a.flags.outOfStep 16384 + some? a.flags.marginUp 32768
    let b := s.bus
    let g := s.grp
    let c := s.ctl
    let e := s.scan
    s.portBytes.length = 256 ∧
    (at1 0x00 0x76 ∧ at1 0x01 1 ∧ at1 0x02 (c.station.toNat + 16 * s.cfg.col.toNat + 64 * s.cfg.row.toNat) ∧
      at1 0x03 (c.resetCause.code + 4 * c.st.code + 32 * ((c.departure.map (·.reason.code)).getD 0) +
        some? c.standbyPending 128) ∧
      at1 0x04 (g.membership.code + some? g.dupLatch 8 + some? c.forcedListen 16 + some? s.wakeListening 32 +
        64 * c.sleepCause.code) ∧
      at1 0x05 (c.wakeCause.code + 8 * c.sleepFails + some? c.warm 64 + some? c.senseLow 128) ∧
      at1 0x06 (c.temp + 40).toNat ∧
      at1 0x07 (s.src.lock.code + some? s.src.gateFrom.isSome 4 + some? s.src.variableCadence 8 + 16 * e.st.code +
        some? s.lq.overrun 128) ∧
      at1 0x08 (s.lq.writer.code + 4 * b.engine.code + 32 * b.mute.code + some? b.holdoff.isSome 128) ∧
      at1 0x09 b.muteCount.toNat ∧
      at1 0x0A ((g.refusal.map fun r => match r.refuser with | .self => 16 | .station n => n.toNat).getD 255) ∧
      at1 0x0B (((g.refusal.map (·.reason.toNat)).getD 0) + 4 * g.lastRepeat.code + some? g.outOfStep 16) ∧
      at1 0x0C g.cleanEpochs) ∧
    (at2 0x0D (some? b.q.rep.isSome 1 + some? b.q.refuse.isSome 2 + some? b.q.leave.isSome 4 + some? b.q.join.isSome 8 +
        some? b.q.status.isSome 16 + some? b.q.wake.isSome 32 + some? b.q.standby.isSome 64 +
        some? b.q.count.isSome 128 + some? b.q.ident.isSome 256) ∧
      at1 0x0F (((s.ovl.latched.map (·.1.toNat)).getD 0) + 16 * ((s.ovl.latched.map (·.2.code)).getD 0) +
        some? s.ovl.drawn 128) ∧
      at2 0x10 s.port.flags.toNat ∧ at2 0x12 s.port.masks.toNat ∧ at1 0x14 s.port.arg.toNat ∧ at1 0x15 0 ∧
      at1 0x16 (some? s.port.cmdRefused 1 + 16 * s.port.lastCmd.toNat) ∧ at1 0x17 s.lq.ring.length ∧
      at2 0x18 s.mem.staleCount ∧ at2 0x1A ((s.ovl.identifyUntil - s.now + 999999) / 1000000) ∧ at2 0x1C s.silentMs ∧
      at1 0x1E ((g.listenEnd.map fun x => (x - s.now + 999999) / 1000000).getD 0) ∧
      at1 0x1F ((g.ownWindowEnd.map fun x => (x - s.now + 999999) / 1000000).getD 0)) ∧
    (at1 0x20 g.epoch.toNat ∧
      at1 0x21 (some? e.shown.isSome 1 + some? e.waiting.isSome 2 + some? (e.waiting.any (·.ended)) 4 +
        some? g.admMark.isSome 8 + some? g.ownInUse.isSome 16 + some? g.ownPend.isSome 32) ∧
      at2 0x22 g.groupLead ∧ at2 0x24 g.groupHold ∧ at2 0x26 e.ownLead ∧
      at2 0x28 (if g.membership = .member then g.groupLead else e.ownLead) ∧ at2 0x2A e.holdInUse ∧ at1 0x2C e.margin ∧
      at1 0x2D e.cleanRun ∧ at2 0x2E ((e.shown.map (·.toNat)).getD 0) ∧
      at2 0x30 ((e.waiting.map (·.serial.toNat)).getD 0) ∧ at2 0x32 ((g.admMark.map (·.toNat)).getD 0) ∧
      at2 0x34 e.lastLag.toNat ∧ at1 0x36 (e.lastLag.toNat / 65536) ∧
      at2 0x37 (s.src.inUse.getD 0 + 8192 * s.src.result.code) ∧ at2 0x39 (s.src.raster.getD 4095) ∧
      at2 0x3B s.src.width ∧ at2 0x3D s.src.height ∧ at1 0x3F s.src.lastTag.toNat) ∧
    ((∀ a len v i, (a, len, v) ∈ s.lag.values → i < len → at1 (a + i) (v / 256 ^ i)) ∧
      (∀ a x, (a, x) ∈ [(0x66, s.lag.c0), (0x68, s.lag.c1), (0x6A, s.lag.c2), (0x6C, s.lag.c3)] →
        at1 a (x.select + 32 * x.qual.code + some? x.invert 128) ∧ at1 (a + 1) (x.threshold + 64 * x.action.code)) ∧
      at1 0x6E s.lag.ovf.toNat ∧ at1 0x6F (some? s.lag.frozen 1 + 2 * s.lag.cause.code + 8 * s.lag.outcome.code)) ∧
    (at1 0x70 s.ldr.fault.code ∧ at1 0x71 c.station.toNat ∧ at1 0x72 (s.ldr.applied + 16 * s.ldr.ignored) ∧
      at1 0x73 s.port.imageIdx.toNat ∧ at1 0x74 (imageByte s.ldr.image s.port.imageIdx.toNat) ∧
      at2 0x75 s.src.skips.toNat ∧ at2 0x77 ((g.ownPend.map fun p => lead p.ann).getD 0) ∧
      at2 0x79 ((g.ownPend.map (·.ann.hold.toNat)).getD 0) ∧ at1 0x7F 0) ∧
    ∀ n, n < 16 → ∀ i, i < 8 →
      s.liveByte (0x80 + 8 * n + i) = ((if n = c.station.toNat then s.ownEntryBytes
        else ((s.peer n).map Peer.bytes).getD (List.replicate 8 0))[i]?).getD 0) ∧
  (∀ (s : State) (p : Peer),
    let some? (b : Bool) (k : Nat) : Nat := if b then k else 0
    let nums (l : List Byte) : List Nat := l.map (·.toNat)
    let lead (a : Ann) : Nat := a.lead.toNat + some? a.flags.sourceLost 2048 + some? a.flags.warm 4096 +
      some? a.flags.overrun 8192 + some? a.flags.outOfStep 16384 + some? a.flags.marginUp 32768
    let told (inUse : Option Ann) (pend : Option PendAnn) : List Nat :=
      let l := (inUse.map lead).getD 0
      let x := (inUse.map (·.hold.toNat)).getD 0
      [l % 256, l / 256, x % 256, x / 256, (pend.map (·.effective.toNat)).getD 0]
    let shown (r : ActionRec) : List Nat :=
      [r.effective.toNat, 1 + (match r.freeze with | none => 0 | some true => 2 | some false => 4) + some? r.clear 8]
    nums p.bytes =
      [(p.state.code + (p.join.map fun j => 8 + 16 * j.col.toNat + 64 * j.row.toNat).getD 0) % 256,
       (p.order.getD 0 + 16 * ((p.due.map (·.code.toNat)).getD 0) + some? p.windowEnd.isSome 64 +
         some? p.inUse.isSome 128) % 256,
       (p.heard + some? p.pend.isSome 128) % 256] ++ told p.inUse p.pend ∧
    nums s.ownEntryBytes =
      [(12 + 16 * s.cfg.col.toNat + 64 * s.cfg.row.toNat) % 256, some? s.grp.ownInUse.isSome 128,
       some? s.grp.ownPend.isSome 128] ++ told s.grp.ownInUse s.grp.ownPend ∧
    nums s.recordsShown =
      (match recordAt (s.grp.epoch + 1) s.lag.actions, recordAt (s.grp.epoch + 2) s.lag.actions with
       | some a, some b => shown a ++ shown b
       | some a, none => shown a ++ [0, 0]
       | none, some b => shown b ++ [0, 0]
       | none, none => [0, 0, 0, 0]) ∧
    nums ((s.portBytes.drop 0x7B).take 4) = nums s.recordsShown)

/-! ### The lag meter -/

/-- How the counters take an event (R169 to R172, R174). A programmable counter that selects the event adds what the table
of R170 gives, and its edge memory follows every sample, frozen or not; settings writes set it to "not met". The fixed
counters take FRAMES_SHOWN and REPEATS, LAG_MAX the larger lag, and no fixed counter stops anything; a clear sets them to 0.
-/
def Obligations.CountersFollowEvents : Prop :=
  ∀ (c : Counter) (l : Lag) (e : Event) (frozen : Bool) (v lag : Nat) (b : Byte) (s : State), v ≤ 48 → lag ≤ 16777215 →
    let occ := Event.queueOccupancy v
    let full := Event.queueFull v
    let deep := decide (c.threshold ≤ v)
    let other := e ≠ .repeats ∧ ∀ n, e ≠ .framesShown n
    let occurrence := (∀ n, e ≠ .queueOccupancy n) ∧ ∀ n, e ≠ .queueFull n
    ((c.take true e).value = c.value) ∧
    (c.select ≠ e.code → c.take frozen e = c) ∧
    (c.select = e.code → occurrence → c.take false e = { c with value := c.value + 1 }) ∧
    (c.select = 4 → c.qual ≠ .plain → (c.take frozen occ).met = deep) ∧
    (c.select = 5 → (c.take frozen full).met = decide (v = 48)) ∧
    (c.select = 4 → c.qual = .plain →
      (c.take false occ).value = c.value + BitVec.ofNat 40 (if c.invert then 48 - v else v)) ∧
    (c.select = 4 → c.qual = .threshold →
      (c.take false occ).value = c.value + (if deep != c.invert then 1 else 0)) ∧
    (c.select = 4 → c.qual = .edge →
      (c.take false occ).value = c.value + (if deep != c.invert && c.met == c.invert then 1 else 0)) ∧
    (c.select = 5 → c.qual ≠ .edge →
      (c.take false full).value = c.value + (if decide (v = 48) != c.invert then 1 else 0)) ∧
    (c.select = 5 → c.qual = .edge →
      (c.take false full).value = c.value + (if decide (v = 48) != c.invert && c.met == c.invert then 1 else 0)) ∧
    ((c.setFirst b).met = false ∧ (c.setSecond b).met = false ∧ State.reset.lag.c0.met = false ∧
      State.reset.lag.c1.met = false ∧ State.reset.lag.c2.met = false ∧ State.reset.lag.c3.met = false) ∧
    (l.frozen = true ∨ other → (l.take e).frames = l.frames ∧ (l.take e).repeats = l.repeats ∧
      (l.take e).lagSum = l.lagSum ∧ (l.take e).lagMax = l.lagMax) ∧
    (l.frozen = false → (l.take (.framesShown lag)).frames = l.frames + 1 ∧
      (l.take (.framesShown lag)).lagSum = l.lagSum + BitVec.ofNat 40 lag ∧
      (l.take (.framesShown lag)).lagMax.toNat = max l.lagMax.toNat lag ∧
      (l.take (.framesShown lag)).repeats = l.repeats) ∧
    (l.frozen = false → (l.take .repeats).repeats = l.repeats + 1 ∧ (l.take .repeats).frames = l.frames ∧
      (l.take .repeats).lagSum = l.lagSum ∧ (l.take .repeats).lagMax = l.lagMax) ∧
    (l.wrapAction e (fun _ => true) = false → (l.take e).frozen = l.frozen ∧ (l.take e).cause = l.cause) ∧
    ((clearCounters s).lag.frames = 0 ∧ (clearCounters s).lag.repeats = 0 ∧ (clearCounters s).lag.lagSum = 0 ∧
      (clearCounters s).lag.lagMax = 0) ∧
    ((setCounterValue 0x54 v s).lag.frames = BitVec.ofNat 40 v ∧ (setCounterValue 0x59 v s).lag.repeats = BitVec.ofNat 40 v ∧
      (setCounterValue 0x5E v s).lag.lagSum = BitVec.ofNat 40 v ∧ (setCounterValue 0x63 v s).lag.lagMax = BitVec.ofNat 24 v)

/-- A wrap past 2^40 - 1 (R171, R175), here of C0 alone: the sum modulo 2^40 stays, its overflow flag and COUNTER_OVERFLOW
are set, LOCAL_STOP and GROUP_STOP freeze with cause OVERFLOW, and GROUP_STOP of a MEMBER queues COUNT(FREEZE). Without a
wrap the flags, the frozen state and the queue stay. -/
def Obligations.WrapsTakeTheirAction : Prop :=
  ∀ (s : State) (e : Event), (∀ v, e = .queueOccupancy v → v ≤ 48) →
    let c := s.lag.c0
    let s' := raise e s
    let wrapped := decide (2 ^ 40 ≤ c.value.toNat + c.gain s.lag.frozen e)
    let group := c.action == .groupStop && s.grp.membership == .member
    s'.lag.counts = (s.lag.take e).counts ∧
    (wrapped = true → (s.lag.take e).c0.value.toNat + 2 ^ 40 = c.value.toNat + c.gain s.lag.frozen e ∧
      s'.lag.ovf.getLsbD 0 = true ∧ s'.port.flags.getLsbD 8 = true ∧
      (c.action ≠ .none → s'.lag.frozen = true ∧ s'.lag.cause = .overflow) ∧
      (group = true → s'.bus.q.count = some { payload := [1], fails := 0, epoch := none } ∧
        s'.lag.outcome = .waiting)) ∧
    (s.lag.wrapBits e = 0 →
      s' = { s with lag := s.lag.take e } ∧ s'.lag.ovf = s.lag.ovf ∧ s'.lag.frozen = s.lag.frozen)

/-! ### What holds after every command -/

/-- The standing judgements (R105, R121, R142; log 19): after every command, in JOINING and MEMBER, the REFUSE slot holds
the refusal of the earliest entry due unless a REFUSE is on the wire, and a changed own lead, own hold or flag has queued a
STATUS with the present values; the standby condition is judged. -/
def Obligations.StandingJudgements : Prop :=
  ∀ (i : Instr) (s s' : State), exec i s = .next s' →
    (s'.grp.membership.active = true → s'.bus.reg.all (fun r => r.kind != .refuse) = true →
      s'.bus.q.refuse.map (·.payload) = (earliestDue (byOrder s'.grp.peers)).map fun d => [refuseByte d.1 d.2]) ∧
    (s'.grp.membership.active = true →
      (s.scan.ownLead ≠ s'.scan.ownLead ∨ s.ownHold ≠ s'.ownHold ∨ s.ownFlags ≠ s'.ownFlags) →
      s'.bus.q.status = some { payload := beBytes 4 s'.ownAnnouncement.encode.toNat, fails := 0, epoch := none }) ∧
    s'.judged.standby = s'.standbyHolds

/-! ### Invariants that every step keeps -/

/-- The driver is enabled whenever the bit engine sends, so the station never drives in BOOT, HALTED, SLEEP, OVERHEAT, while
muted, or as LISTENER or DUPLICATE (R70, R83). -/
def Obligations.DriverStaysSafe : Prop :=
  ∀ s s' : State, s.driveSafe = true → step s = .next s' → s'.driveSafe = true

/-- The line queue keeps its order and the intake its one line (R12, R21 to R24, R29, R32). -/
def Obligations.QueueStaysInOrder : Prop :=
  ∀ s s' : State, s.queueFits = true → s.intakeFits = true → step s = .next s' →
    s'.queueFits = true ∧ s'.intakeFits = true

/-- The sparse tables keep their canonical form, and every row with a content serial keeps known pixels (R38, R39, R41,
R95). -/
def Obligations.TablesStayCanonical : Prop :=
  ∀ s s' : State, s.tablesWf = true → PictureKnown s.mem → step s = .next s' → s'.tablesWf = true ∧ PictureKnown s'.mem

/-- The counts keep their ranges, and the group action list one record for each of the next two epochs (R7, R16, R57, R69,
R89, R117, R150, R177). -/
def Obligations.CountsStayInRange : Prop :=
  ∀ s s' : State, s.countsFit = true → actionsFit s.grp.epoch s.lag.actions = true → s.intakeFits = true →
    s.queueFits = true → step s = .next s' → s'.countsFit = true ∧ actionsFit s'.grp.epoch s'.lag.actions = true

/-- The scan engine's parts fit together, and the membership state is OUTSIDE exactly outside RUN and STANDBY (R44, R45,
R93, R94). -/
def Obligations.ScanAndMembershipFit : Prop :=
  ∀ s s' : State, s.scanFits = true → s.membershipFits = true → step s = .next s' →
    s'.scanFits = true ∧ s'.membershipFits = true

/-- No panel scan tears (R33, R35): while a scan is in progress, a row that it has not yet shown changes only by a commit of
the serial that it shows, unless the picture is cleared as a whole, which only a cut or a reset brings (R41, R48). -/
def Obligations.UnshownRowsChangeByOwnSerial : Prop :=
  ∀ (s s' : State) (p : Prog), s.scan.prog = some p → step s = .next s' →
    ∀ r, p.q ≤ r → Sparse.get s'.mem.tile r = Sparse.get s.mem.tile r ∨ (s'.mem.entry r).serial = some p.serial ∨
      (s'.mem = Mem.reset ∧ s'.scan.prog = none)

/-- Scans keep their distance (R52, R58): between two scan starts there is never less than the minimum frame period. -/
def Obligations.ScansKeepDistance : Prop :=
  ∀ s s' : State, s.holdFits = true → s.scanFits = true → step s = .next s' →
    s'.holdFits = true ∧
    (∀ a b, s.scan.lastStart = some a → s'.scan.lastStart = some b → b ≠ a →
      a + s.cfg.profile.minPeriod * 10000 ≤ b ∧ s.scan.prog = none)

/-- The invariants hold right after reset. -/
def Obligations.InvariantsHoldAtReset : Prop :=
  let z := State.reset
  z.driveSafe = true ∧ z.queueFits = true ∧ z.intakeFits = true ∧ z.tablesWf = true ∧ PictureKnown z.mem ∧
    z.countsFit = true ∧ actionsFit z.grp.epoch z.lag.actions = true ∧ z.scanFits = true ∧ z.membershipFits = true ∧
    z.holdFits = true
end

