-- ==== Sys2Proof/Laws/State.lean ====
section
/-! SUPPORT. What each change of one block does to every field of State, true by rfl, so that no proof unfolds a record update. -/

namespace Sys2Proof.Machine

@[simp] theorem State.modSrc_now (s : State) (f : Src → Src) : (s.modSrc f).now = s.now := rfl
@[simp] theorem State.modSrc_pending (s : State) (f : Src → Src) : (s.modSrc f).pending = s.pending := rfl
@[simp] theorem State.modSrc_src (s : State) (f : Src → Src) : (s.modSrc f).src = f s.src := rfl
@[simp] theorem State.modSrc_lq (s : State) (f : Src → Src) : (s.modSrc f).lq = s.lq := rfl
@[simp] theorem State.modSrc_mem (s : State) (f : Src → Src) : (s.modSrc f).mem = s.mem := rfl
@[simp] theorem State.modSrc_scan (s : State) (f : Src → Src) : (s.modSrc f).scan = s.scan := rfl
@[simp] theorem State.modSrc_bus (s : State) (f : Src → Src) : (s.modSrc f).bus = s.bus := rfl
@[simp] theorem State.modSrc_grp (s : State) (f : Src → Src) : (s.modSrc f).grp = s.grp := rfl
@[simp] theorem State.modSrc_ctl (s : State) (f : Src → Src) : (s.modSrc f).ctl = s.ctl := rfl
@[simp] theorem State.modSrc_ovl (s : State) (f : Src → Src) : (s.modSrc f).ovl = s.ovl := rfl
@[simp] theorem State.modSrc_lag (s : State) (f : Src → Src) : (s.modSrc f).lag = s.lag := rfl
@[simp] theorem State.modSrc_ldr (s : State) (f : Src → Src) : (s.modSrc f).ldr = s.ldr := rfl
@[simp] theorem State.modSrc_cfg (s : State) (f : Src → Src) : (s.modSrc f).cfg = s.cfg := rfl
@[simp] theorem State.modSrc_port (s : State) (f : Src → Src) : (s.modSrc f).port = s.port := rfl
@[simp] theorem State.modSrc_judged (s : State) (f : Src → Src) : (s.modSrc f).judged = s.judged := rfl

@[simp] theorem State.modLq_now (s : State) (f : Lq → Lq) : (s.modLq f).now = s.now := rfl
@[simp] theorem State.modLq_pending (s : State) (f : Lq → Lq) : (s.modLq f).pending = s.pending := rfl
@[simp] theorem State.modLq_src (s : State) (f : Lq → Lq) : (s.modLq f).src = s.src := rfl
@[simp] theorem State.modLq_lq (s : State) (f : Lq → Lq) : (s.modLq f).lq = f s.lq := rfl
@[simp] theorem State.modLq_mem (s : State) (f : Lq → Lq) : (s.modLq f).mem = s.mem := rfl
@[simp] theorem State.modLq_scan (s : State) (f : Lq → Lq) : (s.modLq f).scan = s.scan := rfl
@[simp] theorem State.modLq_bus (s : State) (f : Lq → Lq) : (s.modLq f).bus = s.bus := rfl
@[simp] theorem State.modLq_grp (s : State) (f : Lq → Lq) : (s.modLq f).grp = s.grp := rfl
@[simp] theorem State.modLq_ctl (s : State) (f : Lq → Lq) : (s.modLq f).ctl = s.ctl := rfl
@[simp] theorem State.modLq_ovl (s : State) (f : Lq → Lq) : (s.modLq f).ovl = s.ovl := rfl
@[simp] theorem State.modLq_lag (s : State) (f : Lq → Lq) : (s.modLq f).lag = s.lag := rfl
@[simp] theorem State.modLq_ldr (s : State) (f : Lq → Lq) : (s.modLq f).ldr = s.ldr := rfl
@[simp] theorem State.modLq_cfg (s : State) (f : Lq → Lq) : (s.modLq f).cfg = s.cfg := rfl
@[simp] theorem State.modLq_port (s : State) (f : Lq → Lq) : (s.modLq f).port = s.port := rfl
@[simp] theorem State.modLq_judged (s : State) (f : Lq → Lq) : (s.modLq f).judged = s.judged := rfl

@[simp] theorem State.modMem_now (s : State) (f : Mem → Mem) : (s.modMem f).now = s.now := rfl
@[simp] theorem State.modMem_pending (s : State) (f : Mem → Mem) : (s.modMem f).pending = s.pending := rfl
@[simp] theorem State.modMem_src (s : State) (f : Mem → Mem) : (s.modMem f).src = s.src := rfl
@[simp] theorem State.modMem_lq (s : State) (f : Mem → Mem) : (s.modMem f).lq = s.lq := rfl
@[simp] theorem State.modMem_mem (s : State) (f : Mem → Mem) : (s.modMem f).mem = f s.mem := rfl
@[simp] theorem State.modMem_scan (s : State) (f : Mem → Mem) : (s.modMem f).scan = s.scan := rfl
@[simp] theorem State.modMem_bus (s : State) (f : Mem → Mem) : (s.modMem f).bus = s.bus := rfl
@[simp] theorem State.modMem_grp (s : State) (f : Mem → Mem) : (s.modMem f).grp = s.grp := rfl
@[simp] theorem State.modMem_ctl (s : State) (f : Mem → Mem) : (s.modMem f).ctl = s.ctl := rfl
@[simp] theorem State.modMem_ovl (s : State) (f : Mem → Mem) : (s.modMem f).ovl = s.ovl := rfl
@[simp] theorem State.modMem_lag (s : State) (f : Mem → Mem) : (s.modMem f).lag = s.lag := rfl
@[simp] theorem State.modMem_ldr (s : State) (f : Mem → Mem) : (s.modMem f).ldr = s.ldr := rfl
@[simp] theorem State.modMem_cfg (s : State) (f : Mem → Mem) : (s.modMem f).cfg = s.cfg := rfl
@[simp] theorem State.modMem_port (s : State) (f : Mem → Mem) : (s.modMem f).port = s.port := rfl
@[simp] theorem State.modMem_judged (s : State) (f : Mem → Mem) : (s.modMem f).judged = s.judged := rfl

@[simp] theorem State.modScan_now (s : State) (f : Scan → Scan) : (s.modScan f).now = s.now := rfl
@[simp] theorem State.modScan_pending (s : State) (f : Scan → Scan) : (s.modScan f).pending = s.pending := rfl
@[simp] theorem State.modScan_src (s : State) (f : Scan → Scan) : (s.modScan f).src = s.src := rfl
@[simp] theorem State.modScan_lq (s : State) (f : Scan → Scan) : (s.modScan f).lq = s.lq := rfl
@[simp] theorem State.modScan_mem (s : State) (f : Scan → Scan) : (s.modScan f).mem = s.mem := rfl
@[simp] theorem State.modScan_scan (s : State) (f : Scan → Scan) : (s.modScan f).scan = f s.scan := rfl
@[simp] theorem State.modScan_bus (s : State) (f : Scan → Scan) : (s.modScan f).bus = s.bus := rfl
@[simp] theorem State.modScan_grp (s : State) (f : Scan → Scan) : (s.modScan f).grp = s.grp := rfl
@[simp] theorem State.modScan_ctl (s : State) (f : Scan → Scan) : (s.modScan f).ctl = s.ctl := rfl
@[simp] theorem State.modScan_ovl (s : State) (f : Scan → Scan) : (s.modScan f).ovl = s.ovl := rfl
@[simp] theorem State.modScan_lag (s : State) (f : Scan → Scan) : (s.modScan f).lag = s.lag := rfl
@[simp] theorem State.modScan_ldr (s : State) (f : Scan → Scan) : (s.modScan f).ldr = s.ldr := rfl
@[simp] theorem State.modScan_cfg (s : State) (f : Scan → Scan) : (s.modScan f).cfg = s.cfg := rfl
@[simp] theorem State.modScan_port (s : State) (f : Scan → Scan) : (s.modScan f).port = s.port := rfl
@[simp] theorem State.modScan_judged (s : State) (f : Scan → Scan) : (s.modScan f).judged = s.judged := rfl

@[simp] theorem State.modBus_now (s : State) (f : Bus → Bus) : (s.modBus f).now = s.now := rfl
@[simp] theorem State.modBus_pending (s : State) (f : Bus → Bus) : (s.modBus f).pending = s.pending := rfl
@[simp] theorem State.modBus_src (s : State) (f : Bus → Bus) : (s.modBus f).src = s.src := rfl
@[simp] theorem State.modBus_lq (s : State) (f : Bus → Bus) : (s.modBus f).lq = s.lq := rfl
@[simp] theorem State.modBus_mem (s : State) (f : Bus → Bus) : (s.modBus f).mem = s.mem := rfl
@[simp] theorem State.modBus_scan (s : State) (f : Bus → Bus) : (s.modBus f).scan = s.scan := rfl
@[simp] theorem State.modBus_bus (s : State) (f : Bus → Bus) : (s.modBus f).bus = f s.bus := rfl
@[simp] theorem State.modBus_grp (s : State) (f : Bus → Bus) : (s.modBus f).grp = s.grp := rfl
@[simp] theorem State.modBus_ctl (s : State) (f : Bus → Bus) : (s.modBus f).ctl = s.ctl := rfl
@[simp] theorem State.modBus_ovl (s : State) (f : Bus → Bus) : (s.modBus f).ovl = s.ovl := rfl
@[simp] theorem State.modBus_lag (s : State) (f : Bus → Bus) : (s.modBus f).lag = s.lag := rfl
@[simp] theorem State.modBus_ldr (s : State) (f : Bus → Bus) : (s.modBus f).ldr = s.ldr := rfl
@[simp] theorem State.modBus_cfg (s : State) (f : Bus → Bus) : (s.modBus f).cfg = s.cfg := rfl
@[simp] theorem State.modBus_port (s : State) (f : Bus → Bus) : (s.modBus f).port = s.port := rfl
@[simp] theorem State.modBus_judged (s : State) (f : Bus → Bus) : (s.modBus f).judged = s.judged := rfl

@[simp] theorem State.modGrp_now (s : State) (f : Grp → Grp) : (s.modGrp f).now = s.now := rfl
@[simp] theorem State.modGrp_pending (s : State) (f : Grp → Grp) : (s.modGrp f).pending = s.pending := rfl
@[simp] theorem State.modGrp_src (s : State) (f : Grp → Grp) : (s.modGrp f).src = s.src := rfl
@[simp] theorem State.modGrp_lq (s : State) (f : Grp → Grp) : (s.modGrp f).lq = s.lq := rfl
@[simp] theorem State.modGrp_mem (s : State) (f : Grp → Grp) : (s.modGrp f).mem = s.mem := rfl
@[simp] theorem State.modGrp_scan (s : State) (f : Grp → Grp) : (s.modGrp f).scan = s.scan := rfl
@[simp] theorem State.modGrp_bus (s : State) (f : Grp → Grp) : (s.modGrp f).bus = s.bus := rfl
@[simp] theorem State.modGrp_grp (s : State) (f : Grp → Grp) : (s.modGrp f).grp = f s.grp := rfl
@[simp] theorem State.modGrp_ctl (s : State) (f : Grp → Grp) : (s.modGrp f).ctl = s.ctl := rfl
@[simp] theorem State.modGrp_ovl (s : State) (f : Grp → Grp) : (s.modGrp f).ovl = s.ovl := rfl
@[simp] theorem State.modGrp_lag (s : State) (f : Grp → Grp) : (s.modGrp f).lag = s.lag := rfl
@[simp] theorem State.modGrp_ldr (s : State) (f : Grp → Grp) : (s.modGrp f).ldr = s.ldr := rfl
@[simp] theorem State.modGrp_cfg (s : State) (f : Grp → Grp) : (s.modGrp f).cfg = s.cfg := rfl
@[simp] theorem State.modGrp_port (s : State) (f : Grp → Grp) : (s.modGrp f).port = s.port := rfl
@[simp] theorem State.modGrp_judged (s : State) (f : Grp → Grp) : (s.modGrp f).judged = s.judged := rfl

@[simp] theorem State.modCtl_now (s : State) (f : Ctl → Ctl) : (s.modCtl f).now = s.now := rfl
@[simp] theorem State.modCtl_pending (s : State) (f : Ctl → Ctl) : (s.modCtl f).pending = s.pending := rfl
@[simp] theorem State.modCtl_src (s : State) (f : Ctl → Ctl) : (s.modCtl f).src = s.src := rfl
@[simp] theorem State.modCtl_lq (s : State) (f : Ctl → Ctl) : (s.modCtl f).lq = s.lq := rfl
@[simp] theorem State.modCtl_mem (s : State) (f : Ctl → Ctl) : (s.modCtl f).mem = s.mem := rfl
@[simp] theorem State.modCtl_scan (s : State) (f : Ctl → Ctl) : (s.modCtl f).scan = s.scan := rfl
@[simp] theorem State.modCtl_bus (s : State) (f : Ctl → Ctl) : (s.modCtl f).bus = s.bus := rfl
@[simp] theorem State.modCtl_grp (s : State) (f : Ctl → Ctl) : (s.modCtl f).grp = s.grp := rfl
@[simp] theorem State.modCtl_ctl (s : State) (f : Ctl → Ctl) : (s.modCtl f).ctl = f s.ctl := rfl
@[simp] theorem State.modCtl_ovl (s : State) (f : Ctl → Ctl) : (s.modCtl f).ovl = s.ovl := rfl
@[simp] theorem State.modCtl_lag (s : State) (f : Ctl → Ctl) : (s.modCtl f).lag = s.lag := rfl
@[simp] theorem State.modCtl_ldr (s : State) (f : Ctl → Ctl) : (s.modCtl f).ldr = s.ldr := rfl
@[simp] theorem State.modCtl_cfg (s : State) (f : Ctl → Ctl) : (s.modCtl f).cfg = s.cfg := rfl
@[simp] theorem State.modCtl_port (s : State) (f : Ctl → Ctl) : (s.modCtl f).port = s.port := rfl
@[simp] theorem State.modCtl_judged (s : State) (f : Ctl → Ctl) : (s.modCtl f).judged = s.judged := rfl

@[simp] theorem State.modOvl_now (s : State) (f : Ovl → Ovl) : (s.modOvl f).now = s.now := rfl
@[simp] theorem State.modOvl_pending (s : State) (f : Ovl → Ovl) : (s.modOvl f).pending = s.pending := rfl
@[simp] theorem State.modOvl_src (s : State) (f : Ovl → Ovl) : (s.modOvl f).src = s.src := rfl
@[simp] theorem State.modOvl_lq (s : State) (f : Ovl → Ovl) : (s.modOvl f).lq = s.lq := rfl
@[simp] theorem State.modOvl_mem (s : State) (f : Ovl → Ovl) : (s.modOvl f).mem = s.mem := rfl
@[simp] theorem State.modOvl_scan (s : State) (f : Ovl → Ovl) : (s.modOvl f).scan = s.scan := rfl
@[simp] theorem State.modOvl_bus (s : State) (f : Ovl → Ovl) : (s.modOvl f).bus = s.bus := rfl
@[simp] theorem State.modOvl_grp (s : State) (f : Ovl → Ovl) : (s.modOvl f).grp = s.grp := rfl
@[simp] theorem State.modOvl_ctl (s : State) (f : Ovl → Ovl) : (s.modOvl f).ctl = s.ctl := rfl
@[simp] theorem State.modOvl_ovl (s : State) (f : Ovl → Ovl) : (s.modOvl f).ovl = f s.ovl := rfl
@[simp] theorem State.modOvl_lag (s : State) (f : Ovl → Ovl) : (s.modOvl f).lag = s.lag := rfl
@[simp] theorem State.modOvl_ldr (s : State) (f : Ovl → Ovl) : (s.modOvl f).ldr = s.ldr := rfl
@[simp] theorem State.modOvl_cfg (s : State) (f : Ovl → Ovl) : (s.modOvl f).cfg = s.cfg := rfl
@[simp] theorem State.modOvl_port (s : State) (f : Ovl → Ovl) : (s.modOvl f).port = s.port := rfl
@[simp] theorem State.modOvl_judged (s : State) (f : Ovl → Ovl) : (s.modOvl f).judged = s.judged := rfl

@[simp] theorem State.modLag_now (s : State) (f : Lag → Lag) : (s.modLag f).now = s.now := rfl
@[simp] theorem State.modLag_pending (s : State) (f : Lag → Lag) : (s.modLag f).pending = s.pending := rfl
@[simp] theorem State.modLag_src (s : State) (f : Lag → Lag) : (s.modLag f).src = s.src := rfl
@[simp] theorem State.modLag_lq (s : State) (f : Lag → Lag) : (s.modLag f).lq = s.lq := rfl
@[simp] theorem State.modLag_mem (s : State) (f : Lag → Lag) : (s.modLag f).mem = s.mem := rfl
@[simp] theorem State.modLag_scan (s : State) (f : Lag → Lag) : (s.modLag f).scan = s.scan := rfl
@[simp] theorem State.modLag_bus (s : State) (f : Lag → Lag) : (s.modLag f).bus = s.bus := rfl
@[simp] theorem State.modLag_grp (s : State) (f : Lag → Lag) : (s.modLag f).grp = s.grp := rfl
@[simp] theorem State.modLag_ctl (s : State) (f : Lag → Lag) : (s.modLag f).ctl = s.ctl := rfl
@[simp] theorem State.modLag_ovl (s : State) (f : Lag → Lag) : (s.modLag f).ovl = s.ovl := rfl
@[simp] theorem State.modLag_lag (s : State) (f : Lag → Lag) : (s.modLag f).lag = f s.lag := rfl
@[simp] theorem State.modLag_ldr (s : State) (f : Lag → Lag) : (s.modLag f).ldr = s.ldr := rfl
@[simp] theorem State.modLag_cfg (s : State) (f : Lag → Lag) : (s.modLag f).cfg = s.cfg := rfl
@[simp] theorem State.modLag_port (s : State) (f : Lag → Lag) : (s.modLag f).port = s.port := rfl
@[simp] theorem State.modLag_judged (s : State) (f : Lag → Lag) : (s.modLag f).judged = s.judged := rfl

@[simp] theorem State.modLdr_now (s : State) (f : Ldr → Ldr) : (s.modLdr f).now = s.now := rfl
@[simp] theorem State.modLdr_pending (s : State) (f : Ldr → Ldr) : (s.modLdr f).pending = s.pending := rfl
@[simp] theorem State.modLdr_src (s : State) (f : Ldr → Ldr) : (s.modLdr f).src = s.src := rfl
@[simp] theorem State.modLdr_lq (s : State) (f : Ldr → Ldr) : (s.modLdr f).lq = s.lq := rfl
@[simp] theorem State.modLdr_mem (s : State) (f : Ldr → Ldr) : (s.modLdr f).mem = s.mem := rfl
@[simp] theorem State.modLdr_scan (s : State) (f : Ldr → Ldr) : (s.modLdr f).scan = s.scan := rfl
@[simp] theorem State.modLdr_bus (s : State) (f : Ldr → Ldr) : (s.modLdr f).bus = s.bus := rfl
@[simp] theorem State.modLdr_grp (s : State) (f : Ldr → Ldr) : (s.modLdr f).grp = s.grp := rfl
@[simp] theorem State.modLdr_ctl (s : State) (f : Ldr → Ldr) : (s.modLdr f).ctl = s.ctl := rfl
@[simp] theorem State.modLdr_ovl (s : State) (f : Ldr → Ldr) : (s.modLdr f).ovl = s.ovl := rfl
@[simp] theorem State.modLdr_lag (s : State) (f : Ldr → Ldr) : (s.modLdr f).lag = s.lag := rfl
@[simp] theorem State.modLdr_ldr (s : State) (f : Ldr → Ldr) : (s.modLdr f).ldr = f s.ldr := rfl
@[simp] theorem State.modLdr_cfg (s : State) (f : Ldr → Ldr) : (s.modLdr f).cfg = s.cfg := rfl
@[simp] theorem State.modLdr_port (s : State) (f : Ldr → Ldr) : (s.modLdr f).port = s.port := rfl
@[simp] theorem State.modLdr_judged (s : State) (f : Ldr → Ldr) : (s.modLdr f).judged = s.judged := rfl

@[simp] theorem State.modCfg_now (s : State) (f : Cfg → Cfg) : (s.modCfg f).now = s.now := rfl
@[simp] theorem State.modCfg_pending (s : State) (f : Cfg → Cfg) : (s.modCfg f).pending = s.pending := rfl
@[simp] theorem State.modCfg_src (s : State) (f : Cfg → Cfg) : (s.modCfg f).src = s.src := rfl
@[simp] theorem State.modCfg_lq (s : State) (f : Cfg → Cfg) : (s.modCfg f).lq = s.lq := rfl
@[simp] theorem State.modCfg_mem (s : State) (f : Cfg → Cfg) : (s.modCfg f).mem = s.mem := rfl
@[simp] theorem State.modCfg_scan (s : State) (f : Cfg → Cfg) : (s.modCfg f).scan = s.scan := rfl
@[simp] theorem State.modCfg_bus (s : State) (f : Cfg → Cfg) : (s.modCfg f).bus = s.bus := rfl
@[simp] theorem State.modCfg_grp (s : State) (f : Cfg → Cfg) : (s.modCfg f).grp = s.grp := rfl
@[simp] theorem State.modCfg_ctl (s : State) (f : Cfg → Cfg) : (s.modCfg f).ctl = s.ctl := rfl
@[simp] theorem State.modCfg_ovl (s : State) (f : Cfg → Cfg) : (s.modCfg f).ovl = s.ovl := rfl
@[simp] theorem State.modCfg_lag (s : State) (f : Cfg → Cfg) : (s.modCfg f).lag = s.lag := rfl
@[simp] theorem State.modCfg_ldr (s : State) (f : Cfg → Cfg) : (s.modCfg f).ldr = s.ldr := rfl
@[simp] theorem State.modCfg_cfg (s : State) (f : Cfg → Cfg) : (s.modCfg f).cfg = f s.cfg := rfl
@[simp] theorem State.modCfg_port (s : State) (f : Cfg → Cfg) : (s.modCfg f).port = s.port := rfl
@[simp] theorem State.modCfg_judged (s : State) (f : Cfg → Cfg) : (s.modCfg f).judged = s.judged := rfl

@[simp] theorem State.modPort_now (s : State) (f : Port → Port) : (s.modPort f).now = s.now := rfl
@[simp] theorem State.modPort_pending (s : State) (f : Port → Port) : (s.modPort f).pending = s.pending := rfl
@[simp] theorem State.modPort_src (s : State) (f : Port → Port) : (s.modPort f).src = s.src := rfl
@[simp] theorem State.modPort_lq (s : State) (f : Port → Port) : (s.modPort f).lq = s.lq := rfl
@[simp] theorem State.modPort_mem (s : State) (f : Port → Port) : (s.modPort f).mem = s.mem := rfl
@[simp] theorem State.modPort_scan (s : State) (f : Port → Port) : (s.modPort f).scan = s.scan := rfl
@[simp] theorem State.modPort_bus (s : State) (f : Port → Port) : (s.modPort f).bus = s.bus := rfl
@[simp] theorem State.modPort_grp (s : State) (f : Port → Port) : (s.modPort f).grp = s.grp := rfl
@[simp] theorem State.modPort_ctl (s : State) (f : Port → Port) : (s.modPort f).ctl = s.ctl := rfl
@[simp] theorem State.modPort_ovl (s : State) (f : Port → Port) : (s.modPort f).ovl = s.ovl := rfl
@[simp] theorem State.modPort_lag (s : State) (f : Port → Port) : (s.modPort f).lag = s.lag := rfl
@[simp] theorem State.modPort_ldr (s : State) (f : Port → Port) : (s.modPort f).ldr = s.ldr := rfl
@[simp] theorem State.modPort_cfg (s : State) (f : Port → Port) : (s.modPort f).cfg = s.cfg := rfl
@[simp] theorem State.modPort_port (s : State) (f : Port → Port) : (s.modPort f).port = f s.port := rfl
@[simp] theorem State.modPort_judged (s : State) (f : Port → Port) : (s.modPort f).judged = s.judged := rfl

@[simp] theorem State.modJudged_now (s : State) (f : Judged → Judged) : (s.modJudged f).now = s.now := rfl
@[simp] theorem State.modJudged_pending (s : State) (f : Judged → Judged) : (s.modJudged f).pending = s.pending := rfl
@[simp] theorem State.modJudged_src (s : State) (f : Judged → Judged) : (s.modJudged f).src = s.src := rfl
@[simp] theorem State.modJudged_lq (s : State) (f : Judged → Judged) : (s.modJudged f).lq = s.lq := rfl
@[simp] theorem State.modJudged_mem (s : State) (f : Judged → Judged) : (s.modJudged f).mem = s.mem := rfl
@[simp] theorem State.modJudged_scan (s : State) (f : Judged → Judged) : (s.modJudged f).scan = s.scan := rfl
@[simp] theorem State.modJudged_bus (s : State) (f : Judged → Judged) : (s.modJudged f).bus = s.bus := rfl
@[simp] theorem State.modJudged_grp (s : State) (f : Judged → Judged) : (s.modJudged f).grp = s.grp := rfl
@[simp] theorem State.modJudged_ctl (s : State) (f : Judged → Judged) : (s.modJudged f).ctl = s.ctl := rfl
@[simp] theorem State.modJudged_ovl (s : State) (f : Judged → Judged) : (s.modJudged f).ovl = s.ovl := rfl
@[simp] theorem State.modJudged_lag (s : State) (f : Judged → Judged) : (s.modJudged f).lag = s.lag := rfl
@[simp] theorem State.modJudged_ldr (s : State) (f : Judged → Judged) : (s.modJudged f).ldr = s.ldr := rfl
@[simp] theorem State.modJudged_cfg (s : State) (f : Judged → Judged) : (s.modJudged f).cfg = s.cfg := rfl
@[simp] theorem State.modJudged_port (s : State) (f : Judged → Judged) : (s.modJudged f).port = s.port := rfl
@[simp] theorem State.modJudged_judged (s : State) (f : Judged → Judged) : (s.modJudged f).judged = f s.judged := rfl

@[simp] theorem State.advance_now (s : State) (t : Nat) : (s.advance t).now = max s.now t := rfl
@[simp] theorem State.advance_pending (s : State) (t : Nat) : (s.advance t).pending = s.pending := rfl
@[simp] theorem State.advance_src (s : State) (t : Nat) : (s.advance t).src = s.src := rfl
@[simp] theorem State.advance_lq (s : State) (t : Nat) : (s.advance t).lq = s.lq := rfl
@[simp] theorem State.advance_mem (s : State) (t : Nat) : (s.advance t).mem = s.mem := rfl
@[simp] theorem State.advance_scan (s : State) (t : Nat) : (s.advance t).scan = s.scan := rfl
@[simp] theorem State.advance_bus (s : State) (t : Nat) : (s.advance t).bus = s.bus := rfl
@[simp] theorem State.advance_grp (s : State) (t : Nat) : (s.advance t).grp = s.grp := rfl
@[simp] theorem State.advance_ctl (s : State) (t : Nat) : (s.advance t).ctl = s.ctl := rfl
@[simp] theorem State.advance_ovl (s : State) (t : Nat) : (s.advance t).ovl = s.ovl := rfl
@[simp] theorem State.advance_lag (s : State) (t : Nat) : (s.advance t).lag = s.lag := rfl
@[simp] theorem State.advance_ldr (s : State) (t : Nat) : (s.advance t).ldr = s.ldr := rfl
@[simp] theorem State.advance_cfg (s : State) (t : Nat) : (s.advance t).cfg = s.cfg := rfl
@[simp] theorem State.advance_port (s : State) (t : Nat) : (s.advance t).port = s.port := rfl
@[simp] theorem State.advance_judged (s : State) (t : Nat) : (s.advance t).judged = s.judged := rfl

@[simp] theorem State.withPending_now (s : State) (q : List Instr) : (s.withPending q).now = s.now := rfl
@[simp] theorem State.withPending_pending (s : State) (q : List Instr) : (s.withPending q).pending = q := rfl
@[simp] theorem State.withPending_src (s : State) (q : List Instr) : (s.withPending q).src = s.src := rfl
@[simp] theorem State.withPending_lq (s : State) (q : List Instr) : (s.withPending q).lq = s.lq := rfl
@[simp] theorem State.withPending_mem (s : State) (q : List Instr) : (s.withPending q).mem = s.mem := rfl
@[simp] theorem State.withPending_scan (s : State) (q : List Instr) : (s.withPending q).scan = s.scan := rfl
@[simp] theorem State.withPending_bus (s : State) (q : List Instr) : (s.withPending q).bus = s.bus := rfl
@[simp] theorem State.withPending_grp (s : State) (q : List Instr) : (s.withPending q).grp = s.grp := rfl
@[simp] theorem State.withPending_ctl (s : State) (q : List Instr) : (s.withPending q).ctl = s.ctl := rfl
@[simp] theorem State.withPending_ovl (s : State) (q : List Instr) : (s.withPending q).ovl = s.ovl := rfl
@[simp] theorem State.withPending_lag (s : State) (q : List Instr) : (s.withPending q).lag = s.lag := rfl
@[simp] theorem State.withPending_ldr (s : State) (q : List Instr) : (s.withPending q).ldr = s.ldr := rfl
@[simp] theorem State.withPending_cfg (s : State) (q : List Instr) : (s.withPending q).cfg = s.cfg := rfl
@[simp] theorem State.withPending_port (s : State) (q : List Instr) : (s.withPending q).port = s.port := rfl
@[simp] theorem State.withPending_judged (s : State) (q : List Instr) : (s.withPending q).judged = s.judged := rfl

@[simp] theorem whenever_true (f : State → State) (s : State) : whenever true f s = f s := rfl
@[simp] theorem whenever_false (f : State → State) (s : State) : whenever false f s = s := rfl

/-- A property that both branches have, `whenever` has. -/
theorem whenever_of {P : State → Prop} {p : Bool} {f : State → State} {s : State} (h : P s) (hf : P (f s)) :
    P (whenever p f s) := by
  cases p
  · exact h
  · exact hf

/-- A view that `f` leaves alone, `whenever` leaves alone. -/
theorem whenever_view {α : Type} (g : State → α) {p : Bool} {f : State → State} {s : State} (hf : g (f s) = g s) :
    g (whenever p f s) = g s := by
  cases p
  · rfl
  · exact hf

end Sys2Proof.Machine
end

