-- ==== Sys2Proof/Laws/Frames.lean ====
section
/-! SUPPORT. What each shared operation leaves unchanged: one lemma per operation, a conjunction that simp uses clause by clause. -/

namespace Sys2Proof.Machine

@[simp] theorem Lag.take_actions (l : Lag) (e : Event) : (l.take e).actions = l.actions := rfl
@[simp] theorem Lag.take_outcome (l : Lag) (e : Event) : (l.take e).outcome = l.outcome := rfl

@[simp] theorem setFlag_frame (f : Flag) (s : State) :
    (setFlag f s).now = s.now ∧ (setFlag f s).pending = s.pending ∧ (setFlag f s).src = s.src ∧
    (setFlag f s).lq = s.lq ∧ (setFlag f s).mem = s.mem ∧ (setFlag f s).scan = s.scan ∧ (setFlag f s).bus = s.bus ∧
    (setFlag f s).grp = s.grp ∧ (setFlag f s).ctl = s.ctl ∧ (setFlag f s).ovl = s.ovl ∧ (setFlag f s).lag = s.lag ∧
    (setFlag f s).ldr = s.ldr ∧ (setFlag f s).cfg = s.cfg ∧ (setFlag f s).judged = s.judged ∧
    (setFlag f s).port.masks = s.port.masks ∧ (setFlag f s).port.arg = s.port.arg := by
  (repeat' apply And.intro) <;>
  first | (simp [setFlag]; done) | rfl | (simp only [setFlag, whenever]; (repeat' split) <;> simp; done) | (unfold setFlag; (repeat' split) <;> simp [whenever] <;> (repeat' split) <;> simp; done)

@[simp] theorem setSlot_frame (k : Kind) (v : Option Queued) (s : State) :
    (setSlot k v s).now = s.now ∧ (setSlot k v s).pending = s.pending ∧ (setSlot k v s).src = s.src ∧
    (setSlot k v s).lq = s.lq ∧ (setSlot k v s).mem = s.mem ∧ (setSlot k v s).scan = s.scan ∧
    (setSlot k v s).grp = s.grp ∧ (setSlot k v s).ctl = s.ctl ∧ (setSlot k v s).ovl = s.ovl ∧
    (setSlot k v s).lag = s.lag ∧ (setSlot k v s).ldr = s.ldr ∧ (setSlot k v s).cfg = s.cfg ∧
    (setSlot k v s).port = s.port ∧ (setSlot k v s).judged = s.judged ∧ (setSlot k v s).bus.engine = s.bus.engine ∧
    (setSlot k v s).bus.idleCount = s.bus.idleCount ∧ (setSlot k v s).bus.reg = s.bus.reg ∧
    (setSlot k v s).bus.holdoff = s.bus.holdoff ∧ (setSlot k v s).bus.mute = s.bus.mute ∧
    (setSlot k v s).bus.muteAges = s.bus.muteAges ∧ (setSlot k v s).bus.recessiveFrom = s.bus.recessiveFrom ∧
    (setSlot k v s).bus.runFrom = s.bus.runFrom ∧ (setSlot k v s).bus.startEpoch = s.bus.startEpoch ∧
    (setSlot k v s).bus.bitTime = s.bus.bitTime := by
  (repeat' apply And.intro) <;>
  first | (simp [setSlot]; done) | rfl | (simp only [setSlot, whenever]; (repeat' split) <;> simp; done) | (unfold setSlot; (repeat' split) <;> simp [whenever] <;> (repeat' split) <;> simp; done)

@[simp] theorem setOutcome_frame (o : CountOutcome) (s : State) :
    (setOutcome o s).now = s.now ∧ (setOutcome o s).pending = s.pending ∧ (setOutcome o s).src = s.src ∧
    (setOutcome o s).lq = s.lq ∧ (setOutcome o s).mem = s.mem ∧ (setOutcome o s).scan = s.scan ∧
    (setOutcome o s).bus = s.bus ∧ (setOutcome o s).grp = s.grp ∧ (setOutcome o s).ctl = s.ctl ∧
    (setOutcome o s).ovl = s.ovl ∧ (setOutcome o s).ldr = s.ldr ∧ (setOutcome o s).cfg = s.cfg ∧
    (setOutcome o s).port = s.port ∧ (setOutcome o s).judged = s.judged ∧
    (setOutcome o s).lag.actions = s.lag.actions ∧ (setOutcome o s).lag.frozen = s.lag.frozen := by
  (repeat' apply And.intro) <;>
  first | (simp [setOutcome]; done) | rfl | (simp only [setOutcome, whenever]; (repeat' split) <;> simp; done) | (unfold setOutcome; (repeat' split) <;> simp [whenever] <;> (repeat' split) <;> simp; done)

@[simp] theorem queueNotice_frame (k : Kind) (p : List Byte) (e : Option Epoch) (s : State) :
    (queueNotice k p e s).now = s.now ∧ (queueNotice k p e s).pending = s.pending ∧
    (queueNotice k p e s).src = s.src ∧ (queueNotice k p e s).lq = s.lq ∧ (queueNotice k p e s).mem = s.mem ∧
    (queueNotice k p e s).scan = s.scan ∧ (queueNotice k p e s).grp = s.grp ∧ (queueNotice k p e s).ctl = s.ctl ∧
    (queueNotice k p e s).ovl = s.ovl ∧ (queueNotice k p e s).ldr = s.ldr ∧ (queueNotice k p e s).cfg = s.cfg ∧
    (queueNotice k p e s).port = s.port ∧ (queueNotice k p e s).judged = s.judged ∧
    (queueNotice k p e s).bus.engine = s.bus.engine ∧ (queueNotice k p e s).bus.idleCount = s.bus.idleCount ∧
    (queueNotice k p e s).bus.reg = s.bus.reg ∧ (queueNotice k p e s).bus.holdoff = s.bus.holdoff ∧
    (queueNotice k p e s).bus.mute = s.bus.mute ∧ (queueNotice k p e s).bus.muteAges = s.bus.muteAges ∧
    (queueNotice k p e s).bus.recessiveFrom = s.bus.recessiveFrom ∧
    (queueNotice k p e s).bus.runFrom = s.bus.runFrom ∧ (queueNotice k p e s).bus.startEpoch = s.bus.startEpoch ∧
    (queueNotice k p e s).bus.bitTime = s.bus.bitTime ∧ (queueNotice k p e s).lag.actions = s.lag.actions ∧
    (queueNotice k p e s).lag.frozen = s.lag.frozen := by
  (repeat' apply And.intro) <;>
  first | (simp [queueNotice]; done) | rfl | (simp only [queueNotice, whenever]; (repeat' split) <;> simp; done) | (unfold queueNotice; (repeat' split) <;> simp [whenever] <;> (repeat' split) <;> simp; done)

@[simp] theorem withdrawUnsent_frame (k : Kind) (s : State) :
    (withdrawUnsent k s).now = s.now ∧ (withdrawUnsent k s).pending = s.pending ∧ (withdrawUnsent k s).src = s.src ∧
    (withdrawUnsent k s).lq = s.lq ∧ (withdrawUnsent k s).mem = s.mem ∧ (withdrawUnsent k s).scan = s.scan ∧
    (withdrawUnsent k s).grp = s.grp ∧ (withdrawUnsent k s).ctl = s.ctl ∧ (withdrawUnsent k s).ovl = s.ovl ∧
    (withdrawUnsent k s).lag = s.lag ∧ (withdrawUnsent k s).ldr = s.ldr ∧ (withdrawUnsent k s).cfg = s.cfg ∧
    (withdrawUnsent k s).port = s.port ∧ (withdrawUnsent k s).judged = s.judged ∧
    (withdrawUnsent k s).bus.engine = s.bus.engine ∧ (withdrawUnsent k s).bus.idleCount = s.bus.idleCount ∧
    (withdrawUnsent k s).bus.reg = s.bus.reg ∧ (withdrawUnsent k s).bus.holdoff = s.bus.holdoff ∧
    (withdrawUnsent k s).bus.mute = s.bus.mute ∧ (withdrawUnsent k s).bus.muteAges = s.bus.muteAges ∧
    (withdrawUnsent k s).bus.recessiveFrom = s.bus.recessiveFrom ∧
    (withdrawUnsent k s).bus.runFrom = s.bus.runFrom ∧ (withdrawUnsent k s).bus.startEpoch = s.bus.startEpoch ∧
    (withdrawUnsent k s).bus.bitTime = s.bus.bitTime := by
  (repeat' apply And.intro) <;>
  first | (simp [withdrawUnsent]; done) | rfl | (simp only [withdrawUnsent, whenever]; (repeat' split) <;> simp; done) | (unfold withdrawUnsent; (repeat' split) <;> simp [whenever] <;> (repeat' split) <;> simp; done)

@[simp] theorem withdraw_frame (k : Kind) (s : State) :
    (withdraw k s).now = s.now ∧ (withdraw k s).pending = s.pending ∧ (withdraw k s).src = s.src ∧
    (withdraw k s).lq = s.lq ∧ (withdraw k s).mem = s.mem ∧ (withdraw k s).scan = s.scan ∧
    (withdraw k s).grp = s.grp ∧ (withdraw k s).ctl = s.ctl ∧ (withdraw k s).ovl = s.ovl ∧
    (withdraw k s).ldr = s.ldr ∧ (withdraw k s).cfg = s.cfg ∧ (withdraw k s).port = s.port ∧
    (withdraw k s).judged = s.judged ∧ (withdraw k s).bus.engine = s.bus.engine ∧
    (withdraw k s).bus.idleCount = s.bus.idleCount ∧ (withdraw k s).bus.holdoff = s.bus.holdoff ∧
    (withdraw k s).bus.mute = s.bus.mute ∧ (withdraw k s).bus.muteAges = s.bus.muteAges ∧
    (withdraw k s).bus.recessiveFrom = s.bus.recessiveFrom ∧ (withdraw k s).bus.runFrom = s.bus.runFrom ∧
    (withdraw k s).bus.startEpoch = s.bus.startEpoch ∧ (withdraw k s).bus.bitTime = s.bus.bitTime ∧
    (withdraw k s).lag.actions = s.lag.actions ∧ (withdraw k s).lag.frozen = s.lag.frozen := by
  (repeat' apply And.intro) <;>
  first | (simp [withdraw]; done) | rfl | (simp only [withdraw, whenever]; (repeat' split) <;> simp; done) | (unfold withdraw; (repeat' split) <;> simp [whenever] <;> (repeat' split) <;> simp; done)

@[simp] theorem leaveEnded_frame (p : List Byte) (s : State) :
    (leaveEnded p s).now = s.now ∧ (leaveEnded p s).pending = s.pending ∧ (leaveEnded p s).src = s.src ∧
    (leaveEnded p s).lq = s.lq ∧ (leaveEnded p s).mem = s.mem ∧ (leaveEnded p s).scan = s.scan ∧
    (leaveEnded p s).bus = s.bus ∧ (leaveEnded p s).grp = s.grp ∧ (leaveEnded p s).ovl = s.ovl ∧
    (leaveEnded p s).lag = s.lag ∧ (leaveEnded p s).ldr = s.ldr ∧ (leaveEnded p s).cfg = s.cfg ∧
    (leaveEnded p s).port = s.port ∧ (leaveEnded p s).judged = s.judged ∧ (leaveEnded p s).ctl.st = s.ctl.st ∧
    (leaveEnded p s).ctl.held = s.ctl.held ∧ (leaveEnded p s).ctl.station = s.ctl.station ∧
    (leaveEnded p s).ctl.sleepFails = s.ctl.sleepFails ∧ (leaveEnded p s).ctl.warm = s.ctl.warm := by
  (repeat' apply And.intro) <;>
  first | (simp [leaveEnded]; done) | rfl | (simp only [leaveEnded, whenever]; (repeat' split) <;> simp; done) | (unfold leaveEnded; (repeat' split) <;> simp [whenever] <;> (repeat' split) <;> simp; done)

@[simp] theorem emptyQueue_frame (s : State) :
    (emptyQueue s).now = s.now ∧ (emptyQueue s).pending = s.pending ∧ (emptyQueue s).src = s.src ∧
    (emptyQueue s).lq = s.lq ∧ (emptyQueue s).mem = s.mem ∧ (emptyQueue s).scan = s.scan ∧
    (emptyQueue s).grp = s.grp ∧ (emptyQueue s).ovl = s.ovl ∧ (emptyQueue s).ldr = s.ldr ∧
    (emptyQueue s).cfg = s.cfg ∧ (emptyQueue s).port = s.port ∧ (emptyQueue s).judged = s.judged ∧
    (emptyQueue s).bus.engine = s.bus.engine ∧ (emptyQueue s).bus.idleCount = s.bus.idleCount ∧
    (emptyQueue s).bus.reg = s.bus.reg ∧ (emptyQueue s).bus.holdoff = s.bus.holdoff ∧
    (emptyQueue s).bus.mute = s.bus.mute ∧ (emptyQueue s).bus.muteAges = s.bus.muteAges ∧
    (emptyQueue s).bus.recessiveFrom = s.bus.recessiveFrom ∧ (emptyQueue s).bus.runFrom = s.bus.runFrom ∧
    (emptyQueue s).bus.startEpoch = s.bus.startEpoch ∧ (emptyQueue s).bus.bitTime = s.bus.bitTime ∧
    (emptyQueue s).ctl.st = s.ctl.st ∧ (emptyQueue s).ctl.held = s.ctl.held ∧
    (emptyQueue s).ctl.station = s.ctl.station ∧ (emptyQueue s).ctl.sleepFails = s.ctl.sleepFails ∧
    (emptyQueue s).ctl.warm = s.ctl.warm ∧ (emptyQueue s).lag.actions = s.lag.actions ∧
    (emptyQueue s).lag.frozen = s.lag.frozen := by
  (repeat' apply And.intro) <;>
  first | (simp [emptyQueue]; done) | rfl | (simp only [emptyQueue, whenever]; (repeat' split) <;> simp; done) | (unfold emptyQueue; (repeat' split) <;> simp [whenever] <;> (repeat' split) <;> simp; done)

@[simp] theorem queueCount_frame (a : CountAction) (s : State) :
    (queueCount a s).now = s.now ∧ (queueCount a s).pending = s.pending ∧ (queueCount a s).src = s.src ∧
    (queueCount a s).lq = s.lq ∧ (queueCount a s).mem = s.mem ∧ (queueCount a s).scan = s.scan ∧
    (queueCount a s).grp = s.grp ∧ (queueCount a s).ctl = s.ctl ∧ (queueCount a s).ovl = s.ovl ∧
    (queueCount a s).ldr = s.ldr ∧ (queueCount a s).cfg = s.cfg ∧ (queueCount a s).port = s.port ∧
    (queueCount a s).judged = s.judged ∧ (queueCount a s).bus.engine = s.bus.engine ∧
    (queueCount a s).bus.idleCount = s.bus.idleCount ∧ (queueCount a s).bus.reg = s.bus.reg ∧
    (queueCount a s).bus.holdoff = s.bus.holdoff ∧ (queueCount a s).bus.mute = s.bus.mute ∧
    (queueCount a s).bus.muteAges = s.bus.muteAges ∧ (queueCount a s).bus.recessiveFrom = s.bus.recessiveFrom ∧
    (queueCount a s).bus.runFrom = s.bus.runFrom ∧ (queueCount a s).bus.startEpoch = s.bus.startEpoch ∧
    (queueCount a s).bus.bitTime = s.bus.bitTime ∧ (queueCount a s).lag.actions = s.lag.actions ∧
    (queueCount a s).lag.frozen = s.lag.frozen := by
  (repeat' apply And.intro) <;>
  first | (simp [queueCount]; done) | rfl | (simp only [queueCount, whenever]; (repeat' split) <;> simp; done) | (unfold queueCount; (repeat' split) <;> simp [whenever] <;> (repeat' split) <;> simp; done)

@[simp] theorem raise_frame (e : Event) (s : State) :
    (raise e s).now = s.now ∧ (raise e s).pending = s.pending ∧ (raise e s).src = s.src ∧ (raise e s).lq = s.lq ∧
    (raise e s).mem = s.mem ∧ (raise e s).scan = s.scan ∧ (raise e s).grp = s.grp ∧ (raise e s).ctl = s.ctl ∧
    (raise e s).ovl = s.ovl ∧ (raise e s).ldr = s.ldr ∧ (raise e s).cfg = s.cfg ∧ (raise e s).judged = s.judged ∧
    (raise e s).bus.engine = s.bus.engine ∧ (raise e s).bus.idleCount = s.bus.idleCount ∧
    (raise e s).bus.reg = s.bus.reg ∧ (raise e s).bus.holdoff = s.bus.holdoff ∧ (raise e s).bus.mute = s.bus.mute ∧
    (raise e s).bus.muteAges = s.bus.muteAges ∧ (raise e s).bus.recessiveFrom = s.bus.recessiveFrom ∧
    (raise e s).bus.runFrom = s.bus.runFrom ∧ (raise e s).bus.startEpoch = s.bus.startEpoch ∧
    (raise e s).bus.bitTime = s.bus.bitTime ∧ (raise e s).lag.actions = s.lag.actions ∧
    (raise e s).port.masks = s.port.masks ∧ (raise e s).port.arg = s.port.arg := by
  (repeat' apply And.intro) <;>
  first | (simp [raise]; done) | rfl | (simp only [raise, whenever]; (repeat' split) <;> simp; done) | (unfold raise; (repeat' split) <;> simp [whenever] <;> (repeat' split) <;> simp; done)

@[simp] theorem setFrozen_frame (b : Bool) (c : FreezeCause) (s : State) :
    (setFrozen b c s).now = s.now ∧ (setFrozen b c s).pending = s.pending ∧ (setFrozen b c s).src = s.src ∧
    (setFrozen b c s).lq = s.lq ∧ (setFrozen b c s).mem = s.mem ∧ (setFrozen b c s).scan = s.scan ∧
    (setFrozen b c s).bus = s.bus ∧ (setFrozen b c s).grp = s.grp ∧ (setFrozen b c s).ctl = s.ctl ∧
    (setFrozen b c s).ovl = s.ovl ∧ (setFrozen b c s).ldr = s.ldr ∧ (setFrozen b c s).cfg = s.cfg ∧
    (setFrozen b c s).port = s.port ∧ (setFrozen b c s).judged = s.judged ∧
    (setFrozen b c s).lag.actions = s.lag.actions ∧ (setFrozen b c s).lag.outcome = s.lag.outcome := by
  (repeat' apply And.intro) <;>
  first | (simp [setFrozen]; done) | rfl | (simp only [setFrozen, whenever]; (repeat' split) <;> simp; done) | (unfold setFrozen; (repeat' split) <;> simp [whenever] <;> (repeat' split) <;> simp; done)

@[simp] theorem clearCounters_frame (s : State) :
    (clearCounters s).now = s.now ∧ (clearCounters s).pending = s.pending ∧ (clearCounters s).src = s.src ∧
    (clearCounters s).lq = s.lq ∧ (clearCounters s).mem = s.mem ∧ (clearCounters s).scan = s.scan ∧
    (clearCounters s).bus = s.bus ∧ (clearCounters s).grp = s.grp ∧ (clearCounters s).ctl = s.ctl ∧
    (clearCounters s).ovl = s.ovl ∧ (clearCounters s).ldr = s.ldr ∧ (clearCounters s).cfg = s.cfg ∧
    (clearCounters s).port = s.port ∧ (clearCounters s).judged = s.judged ∧
    (clearCounters s).lag.actions = s.lag.actions ∧ (clearCounters s).lag.frozen = s.lag.frozen ∧
    (clearCounters s).lag.outcome = s.lag.outcome := by
  (repeat' apply And.intro) <;>
  first | (simp [clearCounters]; done) | rfl | (simp only [clearCounters, whenever]; (repeat' split) <;> simp; done) | (unfold clearCounters; (repeat' split) <;> simp [whenever] <;> (repeat' split) <;> simp; done)

@[simp] theorem applyRecord_frame (r : ActionRec) (s : State) :
    (applyRecord r s).now = s.now ∧ (applyRecord r s).pending = s.pending ∧ (applyRecord r s).src = s.src ∧
    (applyRecord r s).lq = s.lq ∧ (applyRecord r s).mem = s.mem ∧ (applyRecord r s).scan = s.scan ∧
    (applyRecord r s).bus = s.bus ∧ (applyRecord r s).grp = s.grp ∧ (applyRecord r s).ctl = s.ctl ∧
    (applyRecord r s).ovl = s.ovl ∧ (applyRecord r s).ldr = s.ldr ∧ (applyRecord r s).cfg = s.cfg ∧
    (applyRecord r s).port = s.port ∧ (applyRecord r s).judged = s.judged ∧
    (applyRecord r s).lag.actions = s.lag.actions ∧ (applyRecord r s).lag.outcome = s.lag.outcome := by
  (repeat' apply And.intro) <;>
  first | (simp [applyRecord]; done) | rfl | (simp only [applyRecord, whenever]; (repeat' split) <;> simp; done) | (unfold applyRecord; (repeat' split) <;> simp [whenever] <;> (repeat' split) <;> simp; done)

@[simp] theorem takeCount_frame (c : Epoch) (a : CountAction) (s : State) :
    (takeCount c a s).now = s.now ∧ (takeCount c a s).pending = s.pending ∧ (takeCount c a s).src = s.src ∧
    (takeCount c a s).lq = s.lq ∧ (takeCount c a s).mem = s.mem ∧ (takeCount c a s).scan = s.scan ∧
    (takeCount c a s).bus = s.bus ∧ (takeCount c a s).grp = s.grp ∧ (takeCount c a s).ctl = s.ctl ∧
    (takeCount c a s).ovl = s.ovl ∧ (takeCount c a s).ldr = s.ldr ∧ (takeCount c a s).cfg = s.cfg ∧
    (takeCount c a s).port = s.port ∧ (takeCount c a s).judged = s.judged ∧
    (takeCount c a s).lag.outcome = s.lag.outcome := by
  (repeat' apply And.intro) <;>
  first | (simp [takeCount]; done) | rfl | (simp only [takeCount, whenever]; (repeat' split) <;> simp; done) | (unfold takeCount; (repeat' split) <;> simp [whenever] <;> (repeat' split) <;> simp; done)

/-- Applying records one after another changes the lag meter alone, and not the own COUNT outcome. -/
theorem foldl_applyRecord_frame (l : List ActionRec) : ∀ s : State,
    (l.foldl (fun s r => applyRecord r s) s) = { s with lag := (l.foldl (fun s r => applyRecord r s) s).lag } ∧
    (l.foldl (fun s r => applyRecord r s) s).lag.outcome = s.lag.outcome := by
  induction l with
  | nil => intro s; exact ⟨rfl, rfl⟩
  | cons r l ih =>
    intro s
    obtain ⟨h1, h2⟩ := ih (applyRecord r s)
    have e : applyRecord r s = { s with lag := (applyRecord r s).lag } := by
      unfold applyRecord clearCounters setFrozen State.modLag
      cases r.clear <;> cases r.freeze <;> rfl
    have o : (applyRecord r s).lag.outcome = s.lag.outcome := by
      unfold applyRecord clearCounters setFrozen State.modLag
      cases r.clear <;> cases r.freeze <;> rfl
    refine ⟨?_, h2.trans o⟩
    show List.foldl _ (applyRecord r s) l = _
    exact h1.trans (congrArg (fun t : State =>
      { t with lag := (l.foldl (fun s r => applyRecord r s) (applyRecord r s)).lag }) e)

@[simp] theorem applyDue_frame (e : Epoch) (s : State) :
    (applyDue e s).now = s.now ∧ (applyDue e s).pending = s.pending ∧ (applyDue e s).src = s.src ∧
    (applyDue e s).lq = s.lq ∧ (applyDue e s).mem = s.mem ∧ (applyDue e s).scan = s.scan ∧
    (applyDue e s).bus = s.bus ∧ (applyDue e s).grp = s.grp ∧ (applyDue e s).ctl = s.ctl ∧
    (applyDue e s).ovl = s.ovl ∧ (applyDue e s).ldr = s.ldr ∧ (applyDue e s).cfg = s.cfg ∧
    (applyDue e s).port = s.port ∧ (applyDue e s).judged = s.judged ∧ (applyDue e s).lag.outcome = s.lag.outcome := by
  obtain ⟨h, o⟩ := foldl_applyRecord_frame (s.lag.actions.filter (·.effective == e))
    (s.modLag fun l => { l with actions := l.actions.filter (·.effective != e) })
  unfold applyDue
  refine ⟨?_, ?_, ?_, ?_, ?_, ?_, ?_, ?_, ?_, ?_, ?_, ?_, ?_, ?_, o⟩ <;> rw [h] <;> rfl

@[simp] theorem applyAllRecords_frame (s : State) :
    (applyAllRecords s).now = s.now ∧ (applyAllRecords s).pending = s.pending ∧ (applyAllRecords s).src = s.src ∧
    (applyAllRecords s).lq = s.lq ∧ (applyAllRecords s).mem = s.mem ∧ (applyAllRecords s).scan = s.scan ∧
    (applyAllRecords s).bus = s.bus ∧ (applyAllRecords s).grp = s.grp ∧ (applyAllRecords s).ctl = s.ctl ∧
    (applyAllRecords s).ovl = s.ovl ∧ (applyAllRecords s).ldr = s.ldr ∧ (applyAllRecords s).cfg = s.cfg ∧
    (applyAllRecords s).port = s.port ∧ (applyAllRecords s).judged = s.judged ∧
    (applyAllRecords s).lag.outcome = s.lag.outcome := by
  (repeat' apply And.intro) <;>
  first | (simp [applyAllRecords]; done) | rfl | (simp only [applyAllRecords, whenever]; (repeat' split) <;> simp; done) | (unfold applyAllRecords; (repeat' split) <;> simp [whenever] <;> (repeat' split) <;> simp; done)

@[simp] theorem setGroupValues_frame (s : State) :
    (setGroupValues s).now = s.now ∧ (setGroupValues s).pending = s.pending ∧ (setGroupValues s).src = s.src ∧
    (setGroupValues s).lq = s.lq ∧ (setGroupValues s).mem = s.mem ∧ (setGroupValues s).scan = s.scan ∧
    (setGroupValues s).bus = s.bus ∧ (setGroupValues s).ctl = s.ctl ∧ (setGroupValues s).ovl = s.ovl ∧
    (setGroupValues s).lag = s.lag ∧ (setGroupValues s).ldr = s.ldr ∧ (setGroupValues s).cfg = s.cfg ∧
    (setGroupValues s).port = s.port ∧ (setGroupValues s).judged = s.judged ∧
    (setGroupValues s).grp.membership = s.grp.membership ∧ (setGroupValues s).grp.peers = s.grp.peers ∧
    (setGroupValues s).grp.refusal = s.grp.refusal ∧ (setGroupValues s).grp.dupLatch = s.grp.dupLatch ∧
    (setGroupValues s).grp.epoch = s.grp.epoch := by
  (repeat' apply And.intro) <;>
  first | (simp [setGroupValues]; done) | rfl | (simp only [setGroupValues, whenever]; (repeat' split) <;> simp; done) | (unfold setGroupValues; (repeat' split) <;> simp [whenever] <;> (repeat' split) <;> simp; done)

@[simp] theorem recomputeNow_frame (s : State) :
    (recomputeNow s).now = s.now ∧ (recomputeNow s).pending = s.pending ∧ (recomputeNow s).src = s.src ∧
    (recomputeNow s).lq = s.lq ∧ (recomputeNow s).mem = s.mem ∧ (recomputeNow s).scan = s.scan ∧
    (recomputeNow s).ctl = s.ctl ∧ (recomputeNow s).ovl = s.ovl ∧ (recomputeNow s).ldr = s.ldr ∧
    (recomputeNow s).cfg = s.cfg ∧ (recomputeNow s).judged = s.judged ∧ (recomputeNow s).bus.engine = s.bus.engine ∧
    (recomputeNow s).bus.idleCount = s.bus.idleCount ∧ (recomputeNow s).bus.reg = s.bus.reg ∧
    (recomputeNow s).bus.holdoff = s.bus.holdoff ∧ (recomputeNow s).bus.mute = s.bus.mute ∧
    (recomputeNow s).bus.muteAges = s.bus.muteAges ∧ (recomputeNow s).bus.recessiveFrom = s.bus.recessiveFrom ∧
    (recomputeNow s).bus.runFrom = s.bus.runFrom ∧ (recomputeNow s).bus.startEpoch = s.bus.startEpoch ∧
    (recomputeNow s).bus.bitTime = s.bus.bitTime ∧ (recomputeNow s).grp.membership = s.grp.membership ∧
    (recomputeNow s).grp.peers = s.grp.peers ∧ (recomputeNow s).grp.refusal = s.grp.refusal ∧
    (recomputeNow s).grp.dupLatch = s.grp.dupLatch ∧ (recomputeNow s).grp.epoch = s.grp.epoch ∧
    (recomputeNow s).lag.actions = s.lag.actions ∧ (recomputeNow s).port.masks = s.port.masks ∧
    (recomputeNow s).port.arg = s.port.arg := by
  (repeat' apply And.intro) <;>
  first | (simp [recomputeNow]; done) | rfl | (simp only [recomputeNow, whenever]; (repeat' split) <;> simp; done) | (unfold recomputeNow; (repeat' split) <;> simp [whenever] <;> (repeat' split) <;> simp; done)

@[simp] theorem recompute_frame (s : State) :
    (recompute s).now = s.now ∧ (recompute s).pending = s.pending ∧ (recompute s).src = s.src ∧
    (recompute s).lq = s.lq ∧ (recompute s).mem = s.mem ∧ (recompute s).scan = s.scan ∧ (recompute s).ctl = s.ctl ∧
    (recompute s).ovl = s.ovl ∧ (recompute s).ldr = s.ldr ∧ (recompute s).cfg = s.cfg ∧
    (recompute s).judged = s.judged ∧ (recompute s).bus.engine = s.bus.engine ∧
    (recompute s).bus.idleCount = s.bus.idleCount ∧ (recompute s).bus.reg = s.bus.reg ∧
    (recompute s).bus.holdoff = s.bus.holdoff ∧ (recompute s).bus.mute = s.bus.mute ∧
    (recompute s).bus.muteAges = s.bus.muteAges ∧ (recompute s).bus.recessiveFrom = s.bus.recessiveFrom ∧
    (recompute s).bus.runFrom = s.bus.runFrom ∧ (recompute s).bus.startEpoch = s.bus.startEpoch ∧
    (recompute s).bus.bitTime = s.bus.bitTime ∧ (recompute s).grp.membership = s.grp.membership ∧
    (recompute s).grp.peers = s.grp.peers ∧ (recompute s).grp.refusal = s.grp.refusal ∧
    (recompute s).grp.dupLatch = s.grp.dupLatch ∧ (recompute s).grp.epoch = s.grp.epoch ∧
    (recompute s).lag.actions = s.lag.actions ∧ (recompute s).port.masks = s.port.masks ∧
    (recompute s).port.arg = s.port.arg := by
  (repeat' apply And.intro) <;>
  first | (simp [recompute]; done) | rfl | (simp only [recompute, whenever]; (repeat' split) <;> simp; done) | (unfold recompute; (repeat' split) <;> simp [whenever] <;> (repeat' split) <;> simp; done)

@[simp] theorem ownValueChanged_frame (s : State) :
    (ownValueChanged s).now = s.now ∧ (ownValueChanged s).pending = s.pending ∧ (ownValueChanged s).src = s.src ∧
    (ownValueChanged s).lq = s.lq ∧ (ownValueChanged s).mem = s.mem ∧ (ownValueChanged s).scan = s.scan ∧
    (ownValueChanged s).ctl = s.ctl ∧ (ownValueChanged s).ovl = s.ovl ∧ (ownValueChanged s).ldr = s.ldr ∧
    (ownValueChanged s).cfg = s.cfg ∧ (ownValueChanged s).judged = s.judged ∧
    (ownValueChanged s).bus.engine = s.bus.engine ∧ (ownValueChanged s).bus.idleCount = s.bus.idleCount ∧
    (ownValueChanged s).bus.reg = s.bus.reg ∧ (ownValueChanged s).bus.holdoff = s.bus.holdoff ∧
    (ownValueChanged s).bus.mute = s.bus.mute ∧ (ownValueChanged s).bus.muteAges = s.bus.muteAges ∧
    (ownValueChanged s).bus.recessiveFrom = s.bus.recessiveFrom ∧ (ownValueChanged s).bus.runFrom = s.bus.runFrom ∧
    (ownValueChanged s).bus.startEpoch = s.bus.startEpoch ∧ (ownValueChanged s).bus.bitTime = s.bus.bitTime ∧
    (ownValueChanged s).grp.membership = s.grp.membership ∧ (ownValueChanged s).grp.peers = s.grp.peers ∧
    (ownValueChanged s).grp.refusal = s.grp.refusal ∧ (ownValueChanged s).grp.dupLatch = s.grp.dupLatch ∧
    (ownValueChanged s).grp.epoch = s.grp.epoch ∧ (ownValueChanged s).lag.actions = s.lag.actions ∧
    (ownValueChanged s).port.masks = s.port.masks ∧ (ownValueChanged s).port.arg = s.port.arg := by
  (repeat' apply And.intro) <;>
  first | (simp [ownValueChanged]; done) | rfl | (simp only [ownValueChanged, whenever]; (repeat' split) <;> simp; done) | (unfold ownValueChanged; (repeat' split) <;> simp [whenever] <;> (repeat' split) <;> simp; done)

@[simp] theorem queueStatus_frame (s : State) :
    (queueStatus s).now = s.now ∧ (queueStatus s).pending = s.pending ∧ (queueStatus s).src = s.src ∧
    (queueStatus s).lq = s.lq ∧ (queueStatus s).mem = s.mem ∧ (queueStatus s).scan = s.scan ∧
    (queueStatus s).grp = s.grp ∧ (queueStatus s).ctl = s.ctl ∧ (queueStatus s).ovl = s.ovl ∧
    (queueStatus s).lag = s.lag ∧ (queueStatus s).ldr = s.ldr ∧ (queueStatus s).cfg = s.cfg ∧
    (queueStatus s).port = s.port ∧ (queueStatus s).judged = s.judged ∧ (queueStatus s).bus.engine = s.bus.engine ∧
    (queueStatus s).bus.idleCount = s.bus.idleCount ∧ (queueStatus s).bus.reg = s.bus.reg ∧
    (queueStatus s).bus.holdoff = s.bus.holdoff ∧ (queueStatus s).bus.mute = s.bus.mute ∧
    (queueStatus s).bus.muteAges = s.bus.muteAges ∧ (queueStatus s).bus.recessiveFrom = s.bus.recessiveFrom ∧
    (queueStatus s).bus.runFrom = s.bus.runFrom ∧ (queueStatus s).bus.startEpoch = s.bus.startEpoch ∧
    (queueStatus s).bus.bitTime = s.bus.bitTime := by
  (repeat' apply And.intro) <;>
  first | (simp [queueStatus]; done) | rfl | (simp only [queueStatus, whenever]; (repeat' split) <;> simp; done) | (unfold queueStatus; (repeat' split) <;> simp [whenever] <;> (repeat' split) <;> simp; done)

@[simp] theorem modPeers_frame (g : List (Nat × Peer) → List (Nat × Peer)) (s : State) :
    (modPeers g s).now = s.now ∧ (modPeers g s).pending = s.pending ∧ (modPeers g s).src = s.src ∧
    (modPeers g s).lq = s.lq ∧ (modPeers g s).mem = s.mem ∧ (modPeers g s).scan = s.scan ∧
    (modPeers g s).bus = s.bus ∧ (modPeers g s).ctl = s.ctl ∧ (modPeers g s).ovl = s.ovl ∧
    (modPeers g s).lag = s.lag ∧ (modPeers g s).ldr = s.ldr ∧ (modPeers g s).cfg = s.cfg ∧
    (modPeers g s).port = s.port ∧ (modPeers g s).judged = s.judged ∧
    (modPeers g s).grp.membership = s.grp.membership ∧ (modPeers g s).grp.refusal = s.grp.refusal ∧
    (modPeers g s).grp.dupLatch = s.grp.dupLatch ∧ (modPeers g s).grp.epoch = s.grp.epoch := by
  (repeat' apply And.intro) <;>
  first | (simp [modPeers]; done) | rfl | (simp only [modPeers, whenever]; (repeat' split) <;> simp; done) | (unfold modPeers; (repeat' split) <;> simp [whenever] <;> (repeat' split) <;> simp; done)

@[simp] theorem setPeer_frame (x : Nat) (p : Peer) (s : State) :
    (setPeer x p s).now = s.now ∧ (setPeer x p s).pending = s.pending ∧ (setPeer x p s).src = s.src ∧
    (setPeer x p s).lq = s.lq ∧ (setPeer x p s).mem = s.mem ∧ (setPeer x p s).scan = s.scan ∧
    (setPeer x p s).bus = s.bus ∧ (setPeer x p s).ctl = s.ctl ∧ (setPeer x p s).ovl = s.ovl ∧
    (setPeer x p s).lag = s.lag ∧ (setPeer x p s).ldr = s.ldr ∧ (setPeer x p s).cfg = s.cfg ∧
    (setPeer x p s).port = s.port ∧ (setPeer x p s).judged = s.judged ∧
    (setPeer x p s).grp.membership = s.grp.membership ∧ (setPeer x p s).grp.refusal = s.grp.refusal ∧
    (setPeer x p s).grp.dupLatch = s.grp.dupLatch ∧ (setPeer x p s).grp.epoch = s.grp.epoch := by
  (repeat' apply And.intro) <;>
  first | (simp [setPeer]; done) | rfl | (simp only [setPeer, whenever]; (repeat' split) <;> simp; done) | (unfold setPeer; (repeat' split) <;> simp [whenever] <;> (repeat' split) <;> simp; done)

@[simp] theorem removePeer_frame (x : Nat) (s : State) :
    (removePeer x s).now = s.now ∧ (removePeer x s).pending = s.pending ∧ (removePeer x s).src = s.src ∧
    (removePeer x s).lq = s.lq ∧ (removePeer x s).mem = s.mem ∧ (removePeer x s).scan = s.scan ∧
    (removePeer x s).ctl = s.ctl ∧ (removePeer x s).ovl = s.ovl ∧ (removePeer x s).ldr = s.ldr ∧
    (removePeer x s).cfg = s.cfg ∧ (removePeer x s).judged = s.judged ∧ (removePeer x s).bus.engine = s.bus.engine ∧
    (removePeer x s).bus.idleCount = s.bus.idleCount ∧ (removePeer x s).bus.reg = s.bus.reg ∧
    (removePeer x s).bus.holdoff = s.bus.holdoff ∧ (removePeer x s).bus.mute = s.bus.mute ∧
    (removePeer x s).bus.muteAges = s.bus.muteAges ∧ (removePeer x s).bus.recessiveFrom = s.bus.recessiveFrom ∧
    (removePeer x s).bus.runFrom = s.bus.runFrom ∧ (removePeer x s).bus.startEpoch = s.bus.startEpoch ∧
    (removePeer x s).bus.bitTime = s.bus.bitTime ∧ (removePeer x s).grp.membership = s.grp.membership ∧
    (removePeer x s).grp.refusal = s.grp.refusal ∧ (removePeer x s).grp.dupLatch = s.grp.dupLatch ∧
    (removePeer x s).grp.epoch = s.grp.epoch ∧ (removePeer x s).lag.actions = s.lag.actions ∧
    (removePeer x s).port.masks = s.port.masks ∧ (removePeer x s).port.arg = s.port.arg := by
  (repeat' apply And.intro) <;>
  first | (simp [removePeer]; done) | rfl | (simp only [removePeer, whenever]; (repeat' split) <;> simp; done) | (unfold removePeer; (repeat' split) <;> simp [whenever] <;> (repeat' split) <;> simp; done)

@[simp] theorem refuseUpkeep_frame (s : State) :
    (refuseUpkeep s).now = s.now ∧ (refuseUpkeep s).pending = s.pending ∧ (refuseUpkeep s).src = s.src ∧
    (refuseUpkeep s).lq = s.lq ∧ (refuseUpkeep s).mem = s.mem ∧ (refuseUpkeep s).scan = s.scan ∧
    (refuseUpkeep s).grp = s.grp ∧ (refuseUpkeep s).ctl = s.ctl ∧ (refuseUpkeep s).ovl = s.ovl ∧
    (refuseUpkeep s).ldr = s.ldr ∧ (refuseUpkeep s).cfg = s.cfg ∧ (refuseUpkeep s).port = s.port ∧
    (refuseUpkeep s).judged = s.judged ∧ (refuseUpkeep s).bus.engine = s.bus.engine ∧
    (refuseUpkeep s).bus.idleCount = s.bus.idleCount ∧ (refuseUpkeep s).bus.holdoff = s.bus.holdoff ∧
    (refuseUpkeep s).bus.mute = s.bus.mute ∧ (refuseUpkeep s).bus.muteAges = s.bus.muteAges ∧
    (refuseUpkeep s).bus.recessiveFrom = s.bus.recessiveFrom ∧ (refuseUpkeep s).bus.runFrom = s.bus.runFrom ∧
    (refuseUpkeep s).bus.startEpoch = s.bus.startEpoch ∧ (refuseUpkeep s).bus.bitTime = s.bus.bitTime ∧
    (refuseUpkeep s).lag.actions = s.lag.actions ∧ (refuseUpkeep s).lag.frozen = s.lag.frozen := by
  (repeat' apply And.intro) <;>
  first | (simp [refuseUpkeep]; done) | rfl | (simp only [refuseUpkeep, whenever]; (repeat' split) <;> simp; done) | (unfold refuseUpkeep; (repeat' split) <;> simp [whenever] <;> (repeat' split) <;> simp; done)

@[simp] theorem withdrawRole_frame (s : State) :
    (withdrawRole s).now = s.now ∧ (withdrawRole s).pending = s.pending ∧ (withdrawRole s).src = s.src ∧
    (withdrawRole s).lq = s.lq ∧ (withdrawRole s).mem = s.mem ∧ (withdrawRole s).scan = s.scan ∧
    (withdrawRole s).ctl = s.ctl ∧ (withdrawRole s).ovl = s.ovl ∧ (withdrawRole s).lag = s.lag ∧
    (withdrawRole s).ldr = s.ldr ∧ (withdrawRole s).cfg = s.cfg ∧ (withdrawRole s).port = s.port ∧
    (withdrawRole s).judged = s.judged ∧ (withdrawRole s).bus.engine = s.bus.engine ∧
    (withdrawRole s).bus.idleCount = s.bus.idleCount ∧ (withdrawRole s).bus.holdoff = s.bus.holdoff ∧
    (withdrawRole s).bus.mute = s.bus.mute ∧ (withdrawRole s).bus.muteAges = s.bus.muteAges ∧
    (withdrawRole s).bus.recessiveFrom = s.bus.recessiveFrom ∧ (withdrawRole s).bus.runFrom = s.bus.runFrom ∧
    (withdrawRole s).bus.startEpoch = s.bus.startEpoch ∧ (withdrawRole s).bus.bitTime = s.bus.bitTime ∧
    (withdrawRole s).grp.membership = s.grp.membership ∧ (withdrawRole s).grp.refusal = s.grp.refusal ∧
    (withdrawRole s).grp.dupLatch = s.grp.dupLatch ∧ (withdrawRole s).grp.epoch = s.grp.epoch := by
  (repeat' apply And.intro) <;>
  first | (simp [withdrawRole]; done) | rfl | (simp only [withdrawRole, whenever]; (repeat' split) <;> simp; done) | (unfold withdrawRole; (repeat' split) <;> simp [whenever] <;> (repeat' split) <;> simp; done)

@[simp] theorem startListening_frame (s : State) :
    (startListening s).now = s.now ∧ (startListening s).pending = s.pending ∧ (startListening s).src = s.src ∧
    (startListening s).lq = s.lq ∧ (startListening s).mem = s.mem ∧ (startListening s).scan = s.scan ∧
    (startListening s).bus = s.bus ∧ (startListening s).ctl = s.ctl ∧ (startListening s).ovl = s.ovl ∧
    (startListening s).lag = s.lag ∧ (startListening s).ldr = s.ldr ∧ (startListening s).cfg = s.cfg ∧
    (startListening s).port = s.port ∧ (startListening s).judged = s.judged ∧
    (startListening s).grp.membership = s.grp.membership ∧ (startListening s).grp.peers = s.grp.peers ∧
    (startListening s).grp.refusal = s.grp.refusal ∧ (startListening s).grp.dupLatch = s.grp.dupLatch ∧
    (startListening s).grp.epoch = s.grp.epoch := by
  (repeat' apply And.intro) <;>
  first | (simp [startListening]; done) | rfl | (simp only [startListening, whenever]; (repeat' split) <;> simp; done) | (unfold startListening; (repeat' split) <;> simp [whenever] <;> (repeat' split) <;> simp; done)

@[simp] theorem leaveMembership_frame (m : Membership) (s : State) :
    (leaveMembership m s).now = s.now ∧ (leaveMembership m s).pending = s.pending ∧
    (leaveMembership m s).src = s.src ∧ (leaveMembership m s).lq = s.lq ∧ (leaveMembership m s).mem = s.mem ∧
    (leaveMembership m s).scan = s.scan ∧ (leaveMembership m s).ctl = s.ctl ∧ (leaveMembership m s).ovl = s.ovl ∧
    (leaveMembership m s).ldr = s.ldr ∧ (leaveMembership m s).cfg = s.cfg ∧ (leaveMembership m s).port = s.port ∧
    (leaveMembership m s).judged = s.judged ∧ (leaveMembership m s).bus.engine = s.bus.engine ∧
    (leaveMembership m s).bus.idleCount = s.bus.idleCount ∧ (leaveMembership m s).bus.holdoff = s.bus.holdoff ∧
    (leaveMembership m s).bus.mute = s.bus.mute ∧ (leaveMembership m s).bus.muteAges = s.bus.muteAges ∧
    (leaveMembership m s).bus.recessiveFrom = s.bus.recessiveFrom ∧
    (leaveMembership m s).bus.runFrom = s.bus.runFrom ∧ (leaveMembership m s).bus.startEpoch = s.bus.startEpoch ∧
    (leaveMembership m s).bus.bitTime = s.bus.bitTime ∧ (leaveMembership m s).grp.membership = s.grp.membership ∧
    (leaveMembership m s).grp.refusal = s.grp.refusal ∧ (leaveMembership m s).grp.dupLatch = s.grp.dupLatch ∧
    (leaveMembership m s).grp.epoch = s.grp.epoch ∧ (leaveMembership m s).lag.actions = s.lag.actions ∧
    (leaveMembership m s).lag.frozen = s.lag.frozen := by
  (repeat' apply And.intro) <;>
  first | (simp [leaveMembership]; done) | rfl | (simp only [leaveMembership, whenever]; (repeat' split) <;> simp; done) | (unfold leaveMembership; (repeat' split) <;> simp [whenever] <;> (repeat' split) <;> simp; done)

@[simp] theorem emptyTable_frame (s : State) :
    (emptyTable s).now = s.now ∧ (emptyTable s).pending = s.pending ∧ (emptyTable s).src = s.src ∧
    (emptyTable s).lq = s.lq ∧ (emptyTable s).mem = s.mem ∧ (emptyTable s).scan = s.scan ∧
    (emptyTable s).bus = s.bus ∧ (emptyTable s).ctl = s.ctl ∧ (emptyTable s).ovl = s.ovl ∧
    (emptyTable s).lag = s.lag ∧ (emptyTable s).ldr = s.ldr ∧ (emptyTable s).cfg = s.cfg ∧
    (emptyTable s).port = s.port ∧ (emptyTable s).judged = s.judged ∧
    (emptyTable s).grp.membership = s.grp.membership ∧ (emptyTable s).grp.refusal = s.grp.refusal ∧
    (emptyTable s).grp.dupLatch = s.grp.dupLatch ∧ (emptyTable s).grp.epoch = s.grp.epoch := by
  (repeat' apply And.intro) <;>
  first | (simp [emptyTable]; done) | rfl | (simp only [emptyTable, whenever]; (repeat' split) <;> simp; done) | (unfold emptyTable; (repeat' split) <;> simp [whenever] <;> (repeat' split) <;> simp; done)

@[simp] theorem enterMembership_frame (m : Membership) (s : State) :
    (enterMembership m s).now = s.now ∧ (enterMembership m s).pending = s.pending ∧
    (enterMembership m s).src = s.src ∧ (enterMembership m s).lq = s.lq ∧ (enterMembership m s).mem = s.mem ∧
    (enterMembership m s).scan = s.scan ∧ (enterMembership m s).ovl = s.ovl ∧ (enterMembership m s).ldr = s.ldr ∧
    (enterMembership m s).cfg = s.cfg ∧ (enterMembership m s).judged = s.judged ∧
    (enterMembership m s).bus.engine = s.bus.engine ∧ (enterMembership m s).bus.idleCount = s.bus.idleCount ∧
    (enterMembership m s).bus.reg = s.bus.reg ∧ (enterMembership m s).bus.holdoff = s.bus.holdoff ∧
    (enterMembership m s).bus.mute = s.bus.mute ∧ (enterMembership m s).bus.muteAges = s.bus.muteAges ∧
    (enterMembership m s).bus.recessiveFrom = s.bus.recessiveFrom ∧
    (enterMembership m s).bus.runFrom = s.bus.runFrom ∧ (enterMembership m s).bus.startEpoch = s.bus.startEpoch ∧
    (enterMembership m s).bus.bitTime = s.bus.bitTime ∧ (enterMembership m s).grp.membership = s.grp.membership ∧
    (enterMembership m s).grp.refusal = s.grp.refusal ∧ (enterMembership m s).grp.dupLatch = s.grp.dupLatch ∧
    (enterMembership m s).grp.epoch = s.grp.epoch ∧ (enterMembership m s).ctl.st = s.ctl.st ∧
    (enterMembership m s).ctl.held = s.ctl.held ∧ (enterMembership m s).ctl.station = s.ctl.station ∧
    (enterMembership m s).ctl.sleepFails = s.ctl.sleepFails ∧ (enterMembership m s).ctl.warm = s.ctl.warm ∧
    (enterMembership m s).port.masks = s.port.masks ∧ (enterMembership m s).port.arg = s.port.arg := by
  (repeat' apply And.intro) <;>
  first | (simp [enterMembership]; done) | rfl | (simp only [enterMembership, whenever]; (repeat' split) <;> simp; done) | (unfold enterMembership; (repeat' split) <;> simp [whenever] <;> (repeat' split) <;> simp; done)

@[simp] theorem setMembership_frame (m : Membership) (s : State) :
    (setMembership m s).now = s.now ∧ (setMembership m s).pending = s.pending ∧ (setMembership m s).src = s.src ∧
    (setMembership m s).lq = s.lq ∧ (setMembership m s).mem = s.mem ∧ (setMembership m s).scan = s.scan ∧
    (setMembership m s).ovl = s.ovl ∧ (setMembership m s).ldr = s.ldr ∧ (setMembership m s).cfg = s.cfg ∧
    (setMembership m s).judged = s.judged ∧ (setMembership m s).bus.engine = s.bus.engine ∧
    (setMembership m s).bus.idleCount = s.bus.idleCount ∧ (setMembership m s).bus.holdoff = s.bus.holdoff ∧
    (setMembership m s).bus.mute = s.bus.mute ∧ (setMembership m s).bus.muteAges = s.bus.muteAges ∧
    (setMembership m s).bus.recessiveFrom = s.bus.recessiveFrom ∧ (setMembership m s).bus.runFrom = s.bus.runFrom ∧
    (setMembership m s).bus.startEpoch = s.bus.startEpoch ∧ (setMembership m s).bus.bitTime = s.bus.bitTime ∧
    (setMembership m s).grp.refusal = s.grp.refusal ∧ (setMembership m s).grp.dupLatch = s.grp.dupLatch ∧
    (setMembership m s).grp.epoch = s.grp.epoch ∧ (setMembership m s).ctl.st = s.ctl.st ∧
    (setMembership m s).ctl.held = s.ctl.held ∧ (setMembership m s).ctl.station = s.ctl.station ∧
    (setMembership m s).ctl.sleepFails = s.ctl.sleepFails ∧ (setMembership m s).ctl.warm = s.ctl.warm ∧
    (setMembership m s).port.masks = s.port.masks ∧ (setMembership m s).port.arg = s.port.arg := by
  (repeat' apply And.intro) <;>
  first | (simp [setMembership]; done) | rfl | (simp only [setMembership, whenever]; (repeat' split) <;> simp; done) | (unfold setMembership; (repeat' split) <;> simp [whenever] <;> (repeat' split) <;> simp; done)

@[simp] theorem bindRefusal_frame (r : Refusing) (s : State) :
    (bindRefusal r s).now = s.now ∧ (bindRefusal r s).pending = s.pending ∧ (bindRefusal r s).src = s.src ∧
    (bindRefusal r s).lq = s.lq ∧ (bindRefusal r s).mem = s.mem ∧ (bindRefusal r s).scan = s.scan ∧
    (bindRefusal r s).ovl = s.ovl ∧ (bindRefusal r s).ldr = s.ldr ∧ (bindRefusal r s).cfg = s.cfg ∧
    (bindRefusal r s).judged = s.judged ∧ (bindRefusal r s).bus.engine = s.bus.engine ∧
    (bindRefusal r s).bus.idleCount = s.bus.idleCount ∧ (bindRefusal r s).bus.holdoff = s.bus.holdoff ∧
    (bindRefusal r s).bus.mute = s.bus.mute ∧ (bindRefusal r s).bus.muteAges = s.bus.muteAges ∧
    (bindRefusal r s).bus.recessiveFrom = s.bus.recessiveFrom ∧ (bindRefusal r s).bus.runFrom = s.bus.runFrom ∧
    (bindRefusal r s).bus.startEpoch = s.bus.startEpoch ∧ (bindRefusal r s).bus.bitTime = s.bus.bitTime ∧
    (bindRefusal r s).grp.dupLatch = s.grp.dupLatch ∧ (bindRefusal r s).grp.epoch = s.grp.epoch ∧
    (bindRefusal r s).ctl.st = s.ctl.st ∧ (bindRefusal r s).ctl.held = s.ctl.held ∧
    (bindRefusal r s).ctl.station = s.ctl.station ∧ (bindRefusal r s).ctl.sleepFails = s.ctl.sleepFails ∧
    (bindRefusal r s).ctl.warm = s.ctl.warm ∧ (bindRefusal r s).port.masks = s.port.masks ∧
    (bindRefusal r s).port.arg = s.port.arg := by
  (repeat' apply And.intro) <;>
  first | (simp [bindRefusal]; done) | rfl | (simp only [bindRefusal, whenever]; (repeat' split) <;> simp; done) | (unfold bindRefusal; (repeat' split) <;> simp [whenever] <;> (repeat' split) <;> simp; done)

@[simp] theorem refusedRetry_frame (s : State) :
    (refusedRetry s).now = s.now ∧ (refusedRetry s).pending = s.pending ∧ (refusedRetry s).src = s.src ∧
    (refusedRetry s).lq = s.lq ∧ (refusedRetry s).mem = s.mem ∧ (refusedRetry s).scan = s.scan ∧
    (refusedRetry s).ovl = s.ovl ∧ (refusedRetry s).ldr = s.ldr ∧ (refusedRetry s).cfg = s.cfg ∧
    (refusedRetry s).judged = s.judged ∧ (refusedRetry s).bus.engine = s.bus.engine ∧
    (refusedRetry s).bus.idleCount = s.bus.idleCount ∧ (refusedRetry s).bus.holdoff = s.bus.holdoff ∧
    (refusedRetry s).bus.mute = s.bus.mute ∧ (refusedRetry s).bus.muteAges = s.bus.muteAges ∧
    (refusedRetry s).bus.recessiveFrom = s.bus.recessiveFrom ∧ (refusedRetry s).bus.runFrom = s.bus.runFrom ∧
    (refusedRetry s).bus.startEpoch = s.bus.startEpoch ∧ (refusedRetry s).bus.bitTime = s.bus.bitTime ∧
    (refusedRetry s).grp.refusal = s.grp.refusal ∧ (refusedRetry s).grp.dupLatch = s.grp.dupLatch ∧
    (refusedRetry s).grp.epoch = s.grp.epoch ∧ (refusedRetry s).ctl.st = s.ctl.st ∧
    (refusedRetry s).ctl.held = s.ctl.held ∧ (refusedRetry s).ctl.station = s.ctl.station ∧
    (refusedRetry s).ctl.sleepFails = s.ctl.sleepFails ∧ (refusedRetry s).ctl.warm = s.ctl.warm ∧
    (refusedRetry s).port.masks = s.port.masks ∧ (refusedRetry s).port.arg = s.port.arg := by
  (repeat' apply And.intro) <;>
  first | (simp [refusedRetry]; done) | rfl | (simp only [refusedRetry, whenever]; (repeat' split) <;> simp; done) | (unfold refusedRetry; (repeat' split) <;> simp [whenever] <;> (repeat' split) <;> simp; done)

@[simp] theorem duplicateFound_frame (s : State) :
    (duplicateFound s).now = s.now ∧ (duplicateFound s).pending = s.pending ∧ (duplicateFound s).src = s.src ∧
    (duplicateFound s).lq = s.lq ∧ (duplicateFound s).mem = s.mem ∧ (duplicateFound s).scan = s.scan ∧
    (duplicateFound s).ovl = s.ovl ∧ (duplicateFound s).ldr = s.ldr ∧ (duplicateFound s).cfg = s.cfg ∧
    (duplicateFound s).judged = s.judged ∧ (duplicateFound s).bus.engine = s.bus.engine ∧
    (duplicateFound s).bus.idleCount = s.bus.idleCount ∧ (duplicateFound s).bus.holdoff = s.bus.holdoff ∧
    (duplicateFound s).bus.mute = s.bus.mute ∧ (duplicateFound s).bus.muteAges = s.bus.muteAges ∧
    (duplicateFound s).bus.recessiveFrom = s.bus.recessiveFrom ∧ (duplicateFound s).bus.runFrom = s.bus.runFrom ∧
    (duplicateFound s).bus.startEpoch = s.bus.startEpoch ∧ (duplicateFound s).bus.bitTime = s.bus.bitTime ∧
    (duplicateFound s).grp.refusal = s.grp.refusal ∧ (duplicateFound s).grp.epoch = s.grp.epoch ∧
    (duplicateFound s).ctl.st = s.ctl.st ∧ (duplicateFound s).ctl.held = s.ctl.held ∧
    (duplicateFound s).ctl.station = s.ctl.station ∧ (duplicateFound s).ctl.sleepFails = s.ctl.sleepFails ∧
    (duplicateFound s).ctl.warm = s.ctl.warm ∧ (duplicateFound s).port.masks = s.port.masks ∧
    (duplicateFound s).port.arg = s.port.arg := by
  (repeat' apply And.intro) <;>
  first | (simp [duplicateFound]; done) | rfl | (simp only [duplicateFound, whenever]; (repeat' split) <;> simp; done) | (unfold duplicateFound; (repeat' split) <;> simp [whenever] <;> (repeat' split) <;> simp; done)

@[simp] theorem ownAnnounce_frame (a : Ann) (c : Epoch) (s : State) :
    (ownAnnounce a c s).now = s.now ∧ (ownAnnounce a c s).pending = s.pending ∧ (ownAnnounce a c s).src = s.src ∧
    (ownAnnounce a c s).lq = s.lq ∧ (ownAnnounce a c s).mem = s.mem ∧ (ownAnnounce a c s).scan = s.scan ∧
    (ownAnnounce a c s).ctl = s.ctl ∧ (ownAnnounce a c s).ovl = s.ovl ∧ (ownAnnounce a c s).ldr = s.ldr ∧
    (ownAnnounce a c s).cfg = s.cfg ∧ (ownAnnounce a c s).judged = s.judged ∧
    (ownAnnounce a c s).bus.engine = s.bus.engine ∧ (ownAnnounce a c s).bus.idleCount = s.bus.idleCount ∧
    (ownAnnounce a c s).bus.reg = s.bus.reg ∧ (ownAnnounce a c s).bus.holdoff = s.bus.holdoff ∧
    (ownAnnounce a c s).bus.mute = s.bus.mute ∧ (ownAnnounce a c s).bus.muteAges = s.bus.muteAges ∧
    (ownAnnounce a c s).bus.recessiveFrom = s.bus.recessiveFrom ∧ (ownAnnounce a c s).bus.runFrom = s.bus.runFrom ∧
    (ownAnnounce a c s).bus.startEpoch = s.bus.startEpoch ∧ (ownAnnounce a c s).bus.bitTime = s.bus.bitTime ∧
    (ownAnnounce a c s).grp.membership = s.grp.membership ∧ (ownAnnounce a c s).grp.peers = s.grp.peers ∧
    (ownAnnounce a c s).grp.refusal = s.grp.refusal ∧ (ownAnnounce a c s).grp.dupLatch = s.grp.dupLatch ∧
    (ownAnnounce a c s).grp.epoch = s.grp.epoch ∧ (ownAnnounce a c s).lag.actions = s.lag.actions ∧
    (ownAnnounce a c s).port.masks = s.port.masks ∧ (ownAnnounce a c s).port.arg = s.port.arg := by
  (repeat' apply And.intro) <;>
  first | (simp [ownAnnounce]; done) | rfl | (simp only [ownAnnounce, whenever]; (repeat' split) <;> simp; done) | (unfold ownAnnounce; (repeat' split) <;> simp [whenever] <;> (repeat' split) <;> simp; done)

@[simp] theorem requeueRepeat_frame (s : State) :
    (requeueRepeat s).now = s.now ∧ (requeueRepeat s).pending = s.pending ∧ (requeueRepeat s).src = s.src ∧
    (requeueRepeat s).lq = s.lq ∧ (requeueRepeat s).mem = s.mem ∧ (requeueRepeat s).scan = s.scan ∧
    (requeueRepeat s).grp = s.grp ∧ (requeueRepeat s).ctl = s.ctl ∧ (requeueRepeat s).ovl = s.ovl ∧
    (requeueRepeat s).ldr = s.ldr ∧ (requeueRepeat s).cfg = s.cfg ∧ (requeueRepeat s).port = s.port ∧
    (requeueRepeat s).judged = s.judged ∧ (requeueRepeat s).bus.engine = s.bus.engine ∧
    (requeueRepeat s).bus.idleCount = s.bus.idleCount ∧ (requeueRepeat s).bus.reg = s.bus.reg ∧
    (requeueRepeat s).bus.holdoff = s.bus.holdoff ∧ (requeueRepeat s).bus.mute = s.bus.mute ∧
    (requeueRepeat s).bus.muteAges = s.bus.muteAges ∧ (requeueRepeat s).bus.recessiveFrom = s.bus.recessiveFrom ∧
    (requeueRepeat s).bus.runFrom = s.bus.runFrom ∧ (requeueRepeat s).bus.startEpoch = s.bus.startEpoch ∧
    (requeueRepeat s).bus.bitTime = s.bus.bitTime ∧ (requeueRepeat s).lag.actions = s.lag.actions ∧
    (requeueRepeat s).lag.frozen = s.lag.frozen := by
  (repeat' apply And.intro) <;>
  first | (simp [requeueRepeat]; done) | rfl | (simp only [requeueRepeat, whenever]; (repeat' split) <;> simp; done) | (unfold requeueRepeat; (repeat' split) <;> simp [whenever] <;> (repeat' split) <;> simp; done)

@[simp] theorem ageMutes_frame (s : State) :
    (ageMutes s).now = s.now ∧ (ageMutes s).pending = s.pending ∧ (ageMutes s).src = s.src ∧
    (ageMutes s).lq = s.lq ∧ (ageMutes s).mem = s.mem ∧ (ageMutes s).scan = s.scan ∧ (ageMutes s).grp = s.grp ∧
    (ageMutes s).ctl = s.ctl ∧ (ageMutes s).ovl = s.ovl ∧ (ageMutes s).lag = s.lag ∧ (ageMutes s).ldr = s.ldr ∧
    (ageMutes s).cfg = s.cfg ∧ (ageMutes s).port = s.port ∧ (ageMutes s).judged = s.judged ∧
    (ageMutes s).bus.engine = s.bus.engine ∧ (ageMutes s).bus.idleCount = s.bus.idleCount ∧
    (ageMutes s).bus.reg = s.bus.reg ∧ (ageMutes s).bus.holdoff = s.bus.holdoff ∧
    (ageMutes s).bus.mute = s.bus.mute ∧ (ageMutes s).bus.recessiveFrom = s.bus.recessiveFrom ∧
    (ageMutes s).bus.runFrom = s.bus.runFrom ∧ (ageMutes s).bus.startEpoch = s.bus.startEpoch ∧
    (ageMutes s).bus.bitTime = s.bus.bitTime := by
  (repeat' apply And.intro) <;>
  first | (simp [ageMutes]; done) | rfl | (simp only [ageMutes, whenever]; (repeat' split) <;> simp; done) | (unfold ageMutes; (repeat' split) <;> simp [whenever] <;> (repeat' split) <;> simp; done)

@[simp] theorem increment_frame (m : Option Serial) (s : State) :
    (increment m s).now = s.now ∧ (increment m s).pending = s.pending ∧ (increment m s).src = s.src ∧
    (increment m s).mem = s.mem ∧ (increment m s).scan = s.scan ∧ (increment m s).ctl = s.ctl ∧
    (increment m s).ovl = s.ovl ∧ (increment m s).ldr = s.ldr ∧ (increment m s).cfg = s.cfg ∧
    (increment m s).judged = s.judged ∧ (increment m s).lq.ring = s.lq.ring ∧
    (increment m s).lq.outPtr = s.lq.outPtr ∧ (increment m s).lq.writer = s.lq.writer ∧
    (increment m s).lq.staging = s.lq.staging ∧ (increment m s).bus.engine = s.bus.engine ∧
    (increment m s).bus.idleCount = s.bus.idleCount ∧ (increment m s).bus.reg = s.bus.reg ∧
    (increment m s).bus.holdoff = s.bus.holdoff ∧ (increment m s).bus.mute = s.bus.mute ∧
    (increment m s).bus.recessiveFrom = s.bus.recessiveFrom ∧ (increment m s).bus.runFrom = s.bus.runFrom ∧
    (increment m s).bus.startEpoch = s.bus.startEpoch ∧ (increment m s).bus.bitTime = s.bus.bitTime ∧
    (increment m s).port.masks = s.port.masks ∧ (increment m s).port.arg = s.port.arg := by
  (repeat' apply And.intro) <;>
  first | (simp [increment]; done) | rfl | (simp only [increment, whenever]; (repeat' split) <;> simp; done) | (unfold increment; (repeat' split) <;> simp [whenever] <;> (repeat' split) <;> simp; done)

@[simp] theorem stepSlip_frame (s : State) :
    (stepSlip s).now = s.now ∧ (stepSlip s).pending = s.pending ∧ (stepSlip s).src = s.src ∧
    (stepSlip s).lq = s.lq ∧ (stepSlip s).mem = s.mem ∧ (stepSlip s).scan = s.scan ∧ (stepSlip s).ctl = s.ctl ∧
    (stepSlip s).ovl = s.ovl ∧ (stepSlip s).ldr = s.ldr ∧ (stepSlip s).cfg = s.cfg ∧
    (stepSlip s).judged = s.judged ∧ (stepSlip s).bus.engine = s.bus.engine ∧
    (stepSlip s).bus.idleCount = s.bus.idleCount ∧ (stepSlip s).bus.reg = s.bus.reg ∧
    (stepSlip s).bus.holdoff = s.bus.holdoff ∧ (stepSlip s).bus.mute = s.bus.mute ∧
    (stepSlip s).bus.muteAges = s.bus.muteAges ∧ (stepSlip s).bus.recessiveFrom = s.bus.recessiveFrom ∧
    (stepSlip s).bus.runFrom = s.bus.runFrom ∧ (stepSlip s).bus.startEpoch = s.bus.startEpoch ∧
    (stepSlip s).bus.bitTime = s.bus.bitTime ∧ (stepSlip s).grp.membership = s.grp.membership ∧
    (stepSlip s).grp.peers = s.grp.peers ∧ (stepSlip s).grp.refusal = s.grp.refusal ∧
    (stepSlip s).grp.dupLatch = s.grp.dupLatch ∧ (stepSlip s).grp.epoch = s.grp.epoch ∧
    (stepSlip s).lag.actions = s.lag.actions ∧ (stepSlip s).port.masks = s.port.masks ∧
    (stepSlip s).port.arg = s.port.arg := by
  (repeat' apply And.intro) <;>
  first | (simp [stepSlip]; done) | rfl | (simp only [stepSlip, whenever]; (repeat' split) <;> simp; done) | (unfold stepSlip; (repeat' split) <;> simp [whenever] <;> (repeat' split) <;> simp; done)

@[simp] theorem adopt_frame (e : Epoch) (s : State) :
    (adopt e s).now = s.now ∧ (adopt e s).pending = s.pending ∧ (adopt e s).src = s.src ∧ (adopt e s).lq = s.lq ∧
    (adopt e s).mem = s.mem ∧ (adopt e s).scan = s.scan ∧ (adopt e s).ctl = s.ctl ∧ (adopt e s).ovl = s.ovl ∧
    (adopt e s).ldr = s.ldr ∧ (adopt e s).cfg = s.cfg ∧ (adopt e s).judged = s.judged ∧
    (adopt e s).bus.engine = s.bus.engine ∧ (adopt e s).bus.idleCount = s.bus.idleCount ∧
    (adopt e s).bus.reg = s.bus.reg ∧ (adopt e s).bus.holdoff = s.bus.holdoff ∧ (adopt e s).bus.mute = s.bus.mute ∧
    (adopt e s).bus.muteAges = s.bus.muteAges ∧ (adopt e s).bus.recessiveFrom = s.bus.recessiveFrom ∧
    (adopt e s).bus.runFrom = s.bus.runFrom ∧ (adopt e s).bus.startEpoch = s.bus.startEpoch ∧
    (adopt e s).bus.bitTime = s.bus.bitTime ∧ (adopt e s).port.masks = s.port.masks ∧
    (adopt e s).port.arg = s.port.arg := by
  (repeat' apply And.intro) <;>
  first | (simp [adopt]; done) | rfl | (simp only [adopt, whenever]; (repeat' split) <;> simp; done) | (unfold adopt; (repeat' split) <;> simp [whenever] <;> (repeat' split) <;> simp; done)

@[simp] theorem markListened_frame (s : State) :
    (markListened s).now = s.now ∧ (markListened s).pending = s.pending ∧ (markListened s).src = s.src ∧
    (markListened s).lq = s.lq ∧ (markListened s).mem = s.mem ∧ (markListened s).scan = s.scan ∧
    (markListened s).bus = s.bus ∧ (markListened s).ctl = s.ctl ∧ (markListened s).ovl = s.ovl ∧
    (markListened s).lag = s.lag ∧ (markListened s).ldr = s.ldr ∧ (markListened s).cfg = s.cfg ∧
    (markListened s).port = s.port ∧ (markListened s).judged = s.judged ∧
    (markListened s).grp.membership = s.grp.membership ∧ (markListened s).grp.peers = s.grp.peers ∧
    (markListened s).grp.refusal = s.grp.refusal ∧ (markListened s).grp.dupLatch = s.grp.dupLatch ∧
    (markListened s).grp.epoch = s.grp.epoch := by
  (repeat' apply And.intro) <;>
  first | (simp [markListened]; done) | rfl | (simp only [markListened, whenever]; (repeat' split) <;> simp; done) | (unfold markListened; (repeat' split) <;> simp [whenever] <;> (repeat' split) <;> simp; done)

@[simp] theorem adoptionTest_frame (x : Nat) (p : Epoch) (b : Bool) (s : State) :
    (adoptionTest x p b s).now = s.now ∧ (adoptionTest x p b s).pending = s.pending ∧
    (adoptionTest x p b s).src = s.src ∧ (adoptionTest x p b s).lq = s.lq ∧ (adoptionTest x p b s).mem = s.mem ∧
    (adoptionTest x p b s).scan = s.scan ∧ (adoptionTest x p b s).ctl = s.ctl ∧ (adoptionTest x p b s).ovl = s.ovl ∧
    (adoptionTest x p b s).ldr = s.ldr ∧ (adoptionTest x p b s).cfg = s.cfg ∧
    (adoptionTest x p b s).judged = s.judged ∧ (adoptionTest x p b s).bus.engine = s.bus.engine ∧
    (adoptionTest x p b s).bus.idleCount = s.bus.idleCount ∧ (adoptionTest x p b s).bus.reg = s.bus.reg ∧
    (adoptionTest x p b s).bus.holdoff = s.bus.holdoff ∧ (adoptionTest x p b s).bus.mute = s.bus.mute ∧
    (adoptionTest x p b s).bus.muteAges = s.bus.muteAges ∧
    (adoptionTest x p b s).bus.recessiveFrom = s.bus.recessiveFrom ∧
    (adoptionTest x p b s).bus.runFrom = s.bus.runFrom ∧ (adoptionTest x p b s).bus.startEpoch = s.bus.startEpoch ∧
    (adoptionTest x p b s).bus.bitTime = s.bus.bitTime ∧ (adoptionTest x p b s).port.masks = s.port.masks ∧
    (adoptionTest x p b s).port.arg = s.port.arg := by
  (repeat' apply And.intro) <;>
  first | (simp [adoptionTest]; done) | rfl | (simp only [adoptionTest, whenever]; (repeat' split) <;> simp; done) | (unfold adoptionTest; (repeat' split) <;> simp [whenever] <;> (repeat' split) <;> simp; done)

@[simp] theorem latchOverlay_frame (s : State) :
    (latchOverlay s).now = s.now ∧ (latchOverlay s).pending = s.pending ∧ (latchOverlay s).src = s.src ∧
    (latchOverlay s).lq = s.lq ∧ (latchOverlay s).mem = s.mem ∧ (latchOverlay s).scan = s.scan ∧
    (latchOverlay s).bus = s.bus ∧ (latchOverlay s).grp = s.grp ∧ (latchOverlay s).ctl = s.ctl ∧
    (latchOverlay s).lag = s.lag ∧ (latchOverlay s).ldr = s.ldr ∧ (latchOverlay s).cfg = s.cfg ∧
    (latchOverlay s).port = s.port ∧ (latchOverlay s).judged = s.judged := by
  (repeat' apply And.intro) <;>
  first | (simp [latchOverlay]; done) | rfl | (simp only [latchOverlay, whenever]; (repeat' split) <;> simp; done) | (unfold latchOverlay; (repeat' split) <;> simp [whenever] <;> (repeat' split) <;> simp; done)

@[simp] theorem startIdentify_frame (n : Nat) (s : State) :
    (startIdentify n s).now = s.now ∧ (startIdentify n s).pending = s.pending ∧ (startIdentify n s).src = s.src ∧
    (startIdentify n s).lq = s.lq ∧ (startIdentify n s).mem = s.mem ∧ (startIdentify n s).scan = s.scan ∧
    (startIdentify n s).bus = s.bus ∧ (startIdentify n s).grp = s.grp ∧ (startIdentify n s).ctl = s.ctl ∧
    (startIdentify n s).lag = s.lag ∧ (startIdentify n s).ldr = s.ldr ∧ (startIdentify n s).cfg = s.cfg ∧
    (startIdentify n s).port = s.port ∧ (startIdentify n s).judged = s.judged := by
  (repeat' apply And.intro) <;>
  first | (simp [startIdentify]; done) | rfl | (simp only [startIdentify, whenever]; (repeat' split) <;> simp; done) | (unfold startIdentify; (repeat' split) <;> simp [whenever] <;> (repeat' split) <;> simp; done)

@[simp] theorem takeSlot_frame (a : Slot) (s : State) :
    (takeSlot a s).now = s.now ∧ (takeSlot a s).pending = s.pending ∧ (takeSlot a s).src = s.src ∧
    (takeSlot a s).mem = s.mem ∧ (takeSlot a s).scan = s.scan ∧ (takeSlot a s).bus = s.bus ∧
    (takeSlot a s).grp = s.grp ∧ (takeSlot a s).ctl = s.ctl ∧ (takeSlot a s).ovl = s.ovl ∧
    (takeSlot a s).lag = s.lag ∧ (takeSlot a s).ldr = s.ldr ∧ (takeSlot a s).cfg = s.cfg ∧
    (takeSlot a s).port = s.port ∧ (takeSlot a s).judged = s.judged ∧ (takeSlot a s).lq.outPtr = s.lq.outPtr ∧
    (takeSlot a s).lq.writer = s.lq.writer ∧ (takeSlot a s).lq.staging = s.lq.staging := by
  (repeat' apply And.intro) <;>
  first | (simp [takeSlot]; done) | rfl | (simp only [takeSlot, whenever]; (repeat' split) <;> simp; done) | (unfold takeSlot; (repeat' split) <;> simp [whenever] <;> (repeat' split) <;> simp; done)

@[simp] theorem freeFilling_frame (s : State) :
    (freeFilling s).now = s.now ∧ (freeFilling s).pending = s.pending ∧ (freeFilling s).src = s.src ∧
    (freeFilling s).mem = s.mem ∧ (freeFilling s).scan = s.scan ∧ (freeFilling s).bus = s.bus ∧
    (freeFilling s).grp = s.grp ∧ (freeFilling s).ctl = s.ctl ∧ (freeFilling s).ovl = s.ovl ∧
    (freeFilling s).lag = s.lag ∧ (freeFilling s).ldr = s.ldr ∧ (freeFilling s).cfg = s.cfg ∧
    (freeFilling s).port = s.port ∧ (freeFilling s).judged = s.judged ∧ (freeFilling s).lq.outPtr = s.lq.outPtr ∧
    (freeFilling s).lq.writer = s.lq.writer ∧ (freeFilling s).lq.staging = s.lq.staging := by
  (repeat' apply And.intro) <;>
  first | (simp [freeFilling]; done) | rfl | (simp only [freeFilling, whenever]; (repeat' split) <;> simp; done) | (unfold freeFilling; (repeat' split) <;> simp [whenever] <;> (repeat' split) <;> simp; done)

@[simp] theorem decideHead_frame (s : State) :
    (decideHead s).now = s.now ∧ (decideHead s).pending = s.pending ∧ (decideHead s).src = s.src ∧
    (decideHead s).mem = s.mem ∧ (decideHead s).scan = s.scan ∧ (decideHead s).bus = s.bus ∧
    (decideHead s).grp = s.grp ∧ (decideHead s).ctl = s.ctl ∧ (decideHead s).ovl = s.ovl ∧
    (decideHead s).lag = s.lag ∧ (decideHead s).ldr = s.ldr ∧ (decideHead s).cfg = s.cfg ∧
    (decideHead s).port = s.port ∧ (decideHead s).judged = s.judged ∧ (decideHead s).lq.ring = s.lq.ring ∧
    (decideHead s).lq.outPtr = s.lq.outPtr ∧ (decideHead s).lq.staging = s.lq.staging := by
  (repeat' apply And.intro) <;>
  first | (simp [decideHead]; done) | rfl | (simp only [decideHead, whenever]; (repeat' split) <;> simp; done) | (unfold decideHead; (repeat' split) <;> simp [whenever] <;> (repeat' split) <;> simp; done)

@[simp] theorem clearRows_frame (s : State) :
    (clearRows s).now = s.now ∧ (clearRows s).pending = s.pending ∧ (clearRows s).src = s.src ∧
    (clearRows s).lq = s.lq ∧ (clearRows s).scan = s.scan ∧ (clearRows s).bus = s.bus ∧ (clearRows s).grp = s.grp ∧
    (clearRows s).ctl = s.ctl ∧ (clearRows s).ovl = s.ovl ∧ (clearRows s).lag = s.lag ∧ (clearRows s).ldr = s.ldr ∧
    (clearRows s).cfg = s.cfg ∧ (clearRows s).port = s.port ∧ (clearRows s).judged = s.judged := by
  (repeat' apply And.intro) <;>
  first | (simp [clearRows]; done) | rfl | (simp only [clearRows, whenever]; (repeat' split) <;> simp; done) | (unfold clearRows; (repeat' split) <;> simp [whenever] <;> (repeat' split) <;> simp; done)

@[simp] theorem issueFill_frame (s : State) :
    (issueFill s).now = s.now ∧ (issueFill s).pending = s.pending ∧ (issueFill s).mem = s.mem ∧
    (issueFill s).scan = s.scan ∧ (issueFill s).bus = s.bus ∧ (issueFill s).grp = s.grp ∧
    (issueFill s).ctl = s.ctl ∧ (issueFill s).ovl = s.ovl ∧ (issueFill s).lag = s.lag ∧ (issueFill s).ldr = s.ldr ∧
    (issueFill s).cfg = s.cfg ∧ (issueFill s).port = s.port ∧ (issueFill s).judged = s.judged ∧
    (issueFill s).src.lock = s.src.lock ∧ (issueFill s).src.fails = s.src.fails ∧
    (issueFill s).src.frameOpen = s.src.frameOpen ∧ (issueFill s).src.serial = s.src.serial ∧
    (issueFill s).src.raster = s.src.raster ∧ (issueFill s).src.line = s.src.line ∧
    (issueFill s).src.running = s.src.running ∧ (issueFill s).lq.outPtr = s.lq.outPtr ∧
    (issueFill s).lq.staging = s.lq.staging := by
  (repeat' apply And.intro) <;>
  first | (simp [issueFill]; done) | rfl | (simp only [issueFill, whenever]; (repeat' split) <;> simp; done) | (unfold issueFill; (repeat' split) <;> simp [whenever] <;> (repeat' split) <;> simp; done)

@[simp] theorem commit_frame (s : State) :
    (commit s).now = s.now ∧ (commit s).pending = s.pending ∧ (commit s).scan = s.scan ∧ (commit s).bus = s.bus ∧
    (commit s).grp = s.grp ∧ (commit s).ctl = s.ctl ∧ (commit s).ovl = s.ovl ∧ (commit s).lag = s.lag ∧
    (commit s).ldr = s.ldr ∧ (commit s).cfg = s.cfg ∧ (commit s).port = s.port ∧ (commit s).judged = s.judged ∧
    (commit s).src.lock = s.src.lock ∧ (commit s).src.fails = s.src.fails ∧
    (commit s).src.frameOpen = s.src.frameOpen ∧ (commit s).src.serial = s.src.serial ∧
    (commit s).src.raster = s.src.raster ∧ (commit s).src.line = s.src.line ∧
    (commit s).src.running = s.src.running := by
  (repeat' apply And.intro) <;>
  first | (simp [commit]; done) | rfl | (simp only [commit, whenever]; (repeat' split) <;> simp; done) | (unfold commit; (repeat' split) <;> simp [whenever] <;> (repeat' split) <;> simp; done)

@[simp] theorem emptyLines_frame (s : State) :
    (emptyLines s).now = s.now ∧ (emptyLines s).pending = s.pending ∧ (emptyLines s).src = s.src ∧
    (emptyLines s).mem = s.mem ∧ (emptyLines s).scan = s.scan ∧ (emptyLines s).bus = s.bus ∧
    (emptyLines s).grp = s.grp ∧ (emptyLines s).ctl = s.ctl ∧ (emptyLines s).ovl = s.ovl ∧
    (emptyLines s).lag = s.lag ∧ (emptyLines s).ldr = s.ldr ∧ (emptyLines s).cfg = s.cfg ∧
    (emptyLines s).port = s.port ∧ (emptyLines s).judged = s.judged := by
  (repeat' apply And.intro) <;>
  first | (simp [emptyLines]; done) | rfl | (simp only [emptyLines, whenever]; (repeat' split) <;> simp; done) | (unfold emptyLines; (repeat' split) <;> simp [whenever] <;> (repeat' split) <;> simp; done)

@[simp] theorem computeOwnLead_frame (s : State) :
    (computeOwnLead s).now = s.now ∧ (computeOwnLead s).pending = s.pending ∧ (computeOwnLead s).src = s.src ∧
    (computeOwnLead s).lq = s.lq ∧ (computeOwnLead s).mem = s.mem ∧ (computeOwnLead s).ctl = s.ctl ∧
    (computeOwnLead s).ovl = s.ovl ∧ (computeOwnLead s).ldr = s.ldr ∧ (computeOwnLead s).cfg = s.cfg ∧
    (computeOwnLead s).judged = s.judged ∧ (computeOwnLead s).scan.st = s.scan.st ∧
    (computeOwnLead s).scan.lastStart = s.scan.lastStart ∧ (computeOwnLead s).scan.prog = s.scan.prog ∧
    (computeOwnLead s).scan.shown = s.scan.shown ∧ (computeOwnLead s).scan.waiting = s.scan.waiting ∧
    (computeOwnLead s).scan.margin = s.scan.margin ∧ (computeOwnLead s).scan.cleanRun = s.scan.cleanRun ∧
    (computeOwnLead s).scan.holdInUse = s.scan.holdInUse ∧ (computeOwnLead s).bus.engine = s.bus.engine ∧
    (computeOwnLead s).bus.idleCount = s.bus.idleCount ∧ (computeOwnLead s).bus.reg = s.bus.reg ∧
    (computeOwnLead s).bus.holdoff = s.bus.holdoff ∧ (computeOwnLead s).bus.mute = s.bus.mute ∧
    (computeOwnLead s).bus.muteAges = s.bus.muteAges ∧ (computeOwnLead s).bus.recessiveFrom = s.bus.recessiveFrom ∧
    (computeOwnLead s).bus.runFrom = s.bus.runFrom ∧ (computeOwnLead s).bus.startEpoch = s.bus.startEpoch ∧
    (computeOwnLead s).bus.bitTime = s.bus.bitTime ∧ (computeOwnLead s).grp.membership = s.grp.membership ∧
    (computeOwnLead s).grp.peers = s.grp.peers ∧ (computeOwnLead s).grp.refusal = s.grp.refusal ∧
    (computeOwnLead s).grp.dupLatch = s.grp.dupLatch ∧ (computeOwnLead s).grp.epoch = s.grp.epoch ∧
    (computeOwnLead s).lag.actions = s.lag.actions ∧ (computeOwnLead s).port.masks = s.port.masks ∧
    (computeOwnLead s).port.arg = s.port.arg := by
  (repeat' apply And.intro) <;>
  first | (simp [computeOwnLead]; done) | rfl | (simp only [computeOwnLead, whenever]; (repeat' split) <;> simp; done) | (unfold computeOwnLead; (repeat' split) <;> simp [whenever] <;> (repeat' split) <;> simp; done)

@[simp] theorem beginScan_frame (x : Serial) (st : ScanState) (s : State) :
    (beginScan x st s).now = s.now ∧ (beginScan x st s).pending = s.pending ∧ (beginScan x st s).src = s.src ∧
    (beginScan x st s).mem = s.mem ∧ (beginScan x st s).ctl = s.ctl ∧ (beginScan x st s).ldr = s.ldr ∧
    (beginScan x st s).cfg = s.cfg ∧ (beginScan x st s).lq.ring = s.lq.ring ∧
    (beginScan x st s).lq.outPtr = s.lq.outPtr ∧ (beginScan x st s).lq.staging = s.lq.staging ∧
    (beginScan x st s).bus.engine = s.bus.engine ∧ (beginScan x st s).bus.idleCount = s.bus.idleCount ∧
    (beginScan x st s).bus.reg = s.bus.reg ∧ (beginScan x st s).bus.holdoff = s.bus.holdoff ∧
    (beginScan x st s).bus.mute = s.bus.mute ∧ (beginScan x st s).bus.muteAges = s.bus.muteAges ∧
    (beginScan x st s).bus.recessiveFrom = s.bus.recessiveFrom ∧ (beginScan x st s).bus.runFrom = s.bus.runFrom ∧
    (beginScan x st s).bus.startEpoch = s.bus.startEpoch ∧ (beginScan x st s).bus.bitTime = s.bus.bitTime ∧
    (beginScan x st s).grp.membership = s.grp.membership ∧ (beginScan x st s).grp.peers = s.grp.peers ∧
    (beginScan x st s).grp.refusal = s.grp.refusal ∧ (beginScan x st s).grp.dupLatch = s.grp.dupLatch ∧
    (beginScan x st s).grp.epoch = s.grp.epoch ∧ (beginScan x st s).lag.actions = s.lag.actions ∧
    (beginScan x st s).port.masks = s.port.masks ∧ (beginScan x st s).port.arg = s.port.arg ∧
    (beginScan x st s).judged.standby = s.judged.standby := by
  (repeat' apply And.intro) <;>
  first | (simp [beginScan]; done) | rfl | (simp only [beginScan, whenever]; (repeat' split) <;> simp; done) | (unfold beginScan; (repeat' split) <;> simp [whenever] <;> (repeat' split) <;> simp; done)

@[simp] theorem startNewFrame_frame (s : State) :
    (startNewFrame s).now = s.now ∧ (startNewFrame s).pending = s.pending ∧ (startNewFrame s).src = s.src ∧
    (startNewFrame s).mem = s.mem ∧ (startNewFrame s).ctl = s.ctl ∧ (startNewFrame s).ldr = s.ldr ∧
    (startNewFrame s).cfg = s.cfg ∧ (startNewFrame s).lq.ring = s.lq.ring ∧
    (startNewFrame s).lq.outPtr = s.lq.outPtr ∧ (startNewFrame s).lq.staging = s.lq.staging ∧
    (startNewFrame s).bus.engine = s.bus.engine ∧ (startNewFrame s).bus.idleCount = s.bus.idleCount ∧
    (startNewFrame s).bus.reg = s.bus.reg ∧ (startNewFrame s).bus.holdoff = s.bus.holdoff ∧
    (startNewFrame s).bus.mute = s.bus.mute ∧ (startNewFrame s).bus.muteAges = s.bus.muteAges ∧
    (startNewFrame s).bus.recessiveFrom = s.bus.recessiveFrom ∧ (startNewFrame s).bus.runFrom = s.bus.runFrom ∧
    (startNewFrame s).bus.startEpoch = s.bus.startEpoch ∧ (startNewFrame s).bus.bitTime = s.bus.bitTime ∧
    (startNewFrame s).grp.membership = s.grp.membership ∧ (startNewFrame s).grp.peers = s.grp.peers ∧
    (startNewFrame s).grp.refusal = s.grp.refusal ∧ (startNewFrame s).grp.dupLatch = s.grp.dupLatch ∧
    (startNewFrame s).grp.epoch = s.grp.epoch ∧ (startNewFrame s).lag.actions = s.lag.actions ∧
    (startNewFrame s).port.masks = s.port.masks ∧ (startNewFrame s).port.arg = s.port.arg ∧
    (startNewFrame s).judged.standby = s.judged.standby := by
  (repeat' apply And.intro) <;>
  first | (simp [startNewFrame]; done) | rfl | (simp only [startNewFrame, whenever]; (repeat' split) <;> simp; done) | (unfold startNewFrame; (repeat' split) <;> simp [whenever] <;> (repeat' split) <;> simp; done)

@[simp] theorem startRepeat_frame (s : State) :
    (startRepeat s).now = s.now ∧ (startRepeat s).pending = s.pending ∧ (startRepeat s).src = s.src ∧
    (startRepeat s).mem = s.mem ∧ (startRepeat s).ctl = s.ctl ∧ (startRepeat s).ldr = s.ldr ∧
    (startRepeat s).cfg = s.cfg ∧ (startRepeat s).lq.ring = s.lq.ring ∧ (startRepeat s).lq.outPtr = s.lq.outPtr ∧
    (startRepeat s).lq.staging = s.lq.staging ∧ (startRepeat s).bus.engine = s.bus.engine ∧
    (startRepeat s).bus.idleCount = s.bus.idleCount ∧ (startRepeat s).bus.reg = s.bus.reg ∧
    (startRepeat s).bus.holdoff = s.bus.holdoff ∧ (startRepeat s).bus.mute = s.bus.mute ∧
    (startRepeat s).bus.muteAges = s.bus.muteAges ∧ (startRepeat s).bus.recessiveFrom = s.bus.recessiveFrom ∧
    (startRepeat s).bus.runFrom = s.bus.runFrom ∧ (startRepeat s).bus.startEpoch = s.bus.startEpoch ∧
    (startRepeat s).bus.bitTime = s.bus.bitTime ∧ (startRepeat s).grp.membership = s.grp.membership ∧
    (startRepeat s).grp.peers = s.grp.peers ∧ (startRepeat s).grp.refusal = s.grp.refusal ∧
    (startRepeat s).grp.dupLatch = s.grp.dupLatch ∧ (startRepeat s).grp.epoch = s.grp.epoch ∧
    (startRepeat s).lag.actions = s.lag.actions ∧ (startRepeat s).port.masks = s.port.masks ∧
    (startRepeat s).port.arg = s.port.arg ∧ (startRepeat s).judged.standby = s.judged.standby := by
  (repeat' apply And.intro) <;>
  first | (simp [startRepeat]; done) | rfl | (simp only [startRepeat, whenever]; (repeat' split) <;> simp; done) | (unfold startRepeat; (repeat' split) <;> simp [whenever] <;> (repeat' split) <;> simp; done)

@[simp] theorem newFrameIfDue_frame (b : Bool) (s : State) :
    (newFrameIfDue b s).now = s.now ∧ (newFrameIfDue b s).pending = s.pending ∧ (newFrameIfDue b s).src = s.src ∧
    (newFrameIfDue b s).mem = s.mem ∧ (newFrameIfDue b s).ctl = s.ctl ∧ (newFrameIfDue b s).ldr = s.ldr ∧
    (newFrameIfDue b s).cfg = s.cfg ∧ (newFrameIfDue b s).lq.ring = s.lq.ring ∧
    (newFrameIfDue b s).lq.outPtr = s.lq.outPtr ∧ (newFrameIfDue b s).lq.staging = s.lq.staging ∧
    (newFrameIfDue b s).bus.engine = s.bus.engine ∧ (newFrameIfDue b s).bus.idleCount = s.bus.idleCount ∧
    (newFrameIfDue b s).bus.reg = s.bus.reg ∧ (newFrameIfDue b s).bus.holdoff = s.bus.holdoff ∧
    (newFrameIfDue b s).bus.mute = s.bus.mute ∧ (newFrameIfDue b s).bus.muteAges = s.bus.muteAges ∧
    (newFrameIfDue b s).bus.recessiveFrom = s.bus.recessiveFrom ∧ (newFrameIfDue b s).bus.runFrom = s.bus.runFrom ∧
    (newFrameIfDue b s).bus.startEpoch = s.bus.startEpoch ∧ (newFrameIfDue b s).bus.bitTime = s.bus.bitTime ∧
    (newFrameIfDue b s).grp.membership = s.grp.membership ∧ (newFrameIfDue b s).grp.peers = s.grp.peers ∧
    (newFrameIfDue b s).grp.refusal = s.grp.refusal ∧ (newFrameIfDue b s).grp.dupLatch = s.grp.dupLatch ∧
    (newFrameIfDue b s).grp.epoch = s.grp.epoch ∧ (newFrameIfDue b s).lag.actions = s.lag.actions ∧
    (newFrameIfDue b s).port.masks = s.port.masks ∧ (newFrameIfDue b s).port.arg = s.port.arg ∧
    (newFrameIfDue b s).judged.standby = s.judged.standby := by
  (repeat' apply And.intro) <;>
  first | (simp [newFrameIfDue]; done) | rfl | (simp only [newFrameIfDue, whenever]; (repeat' split) <;> simp; done) | (unfold newFrameIfDue; (repeat' split) <;> simp [whenever] <;> (repeat' split) <;> simp; done)

@[simp] theorem owedIfDue_frame (s : State) :
    (owedIfDue s).now = s.now ∧ (owedIfDue s).pending = s.pending ∧ (owedIfDue s).src = s.src ∧
    (owedIfDue s).mem = s.mem ∧ (owedIfDue s).ctl = s.ctl ∧ (owedIfDue s).ldr = s.ldr ∧ (owedIfDue s).cfg = s.cfg ∧
    (owedIfDue s).lq.ring = s.lq.ring ∧ (owedIfDue s).lq.outPtr = s.lq.outPtr ∧
    (owedIfDue s).lq.staging = s.lq.staging ∧ (owedIfDue s).bus.engine = s.bus.engine ∧
    (owedIfDue s).bus.idleCount = s.bus.idleCount ∧ (owedIfDue s).bus.reg = s.bus.reg ∧
    (owedIfDue s).bus.holdoff = s.bus.holdoff ∧ (owedIfDue s).bus.mute = s.bus.mute ∧
    (owedIfDue s).bus.muteAges = s.bus.muteAges ∧ (owedIfDue s).bus.recessiveFrom = s.bus.recessiveFrom ∧
    (owedIfDue s).bus.runFrom = s.bus.runFrom ∧ (owedIfDue s).bus.startEpoch = s.bus.startEpoch ∧
    (owedIfDue s).bus.bitTime = s.bus.bitTime ∧ (owedIfDue s).grp.membership = s.grp.membership ∧
    (owedIfDue s).grp.peers = s.grp.peers ∧ (owedIfDue s).grp.refusal = s.grp.refusal ∧
    (owedIfDue s).grp.dupLatch = s.grp.dupLatch ∧ (owedIfDue s).grp.epoch = s.grp.epoch ∧
    (owedIfDue s).lag.actions = s.lag.actions ∧ (owedIfDue s).port.masks = s.port.masks ∧
    (owedIfDue s).port.arg = s.port.arg ∧ (owedIfDue s).judged.standby = s.judged.standby := by
  (repeat' apply And.intro) <;>
  first | (simp [owedIfDue]; done) | rfl | (simp only [owedIfDue, whenever]; (repeat' split) <;> simp; done) | (unfold owedIfDue; (repeat' split) <;> simp [whenever] <;> (repeat' split) <;> simp; done)

@[simp] theorem startAtEnd_frame (b : Bool) (s : State) :
    (startAtEnd b s).now = s.now ∧ (startAtEnd b s).pending = s.pending ∧ (startAtEnd b s).src = s.src ∧
    (startAtEnd b s).mem = s.mem ∧ (startAtEnd b s).ctl = s.ctl ∧ (startAtEnd b s).ldr = s.ldr ∧
    (startAtEnd b s).cfg = s.cfg ∧ (startAtEnd b s).lq.ring = s.lq.ring ∧ (startAtEnd b s).lq.outPtr = s.lq.outPtr ∧
    (startAtEnd b s).lq.staging = s.lq.staging ∧ (startAtEnd b s).bus.engine = s.bus.engine ∧
    (startAtEnd b s).bus.idleCount = s.bus.idleCount ∧ (startAtEnd b s).bus.reg = s.bus.reg ∧
    (startAtEnd b s).bus.holdoff = s.bus.holdoff ∧ (startAtEnd b s).bus.mute = s.bus.mute ∧
    (startAtEnd b s).bus.muteAges = s.bus.muteAges ∧ (startAtEnd b s).bus.recessiveFrom = s.bus.recessiveFrom ∧
    (startAtEnd b s).bus.runFrom = s.bus.runFrom ∧ (startAtEnd b s).bus.startEpoch = s.bus.startEpoch ∧
    (startAtEnd b s).bus.bitTime = s.bus.bitTime ∧ (startAtEnd b s).grp.membership = s.grp.membership ∧
    (startAtEnd b s).grp.peers = s.grp.peers ∧ (startAtEnd b s).grp.refusal = s.grp.refusal ∧
    (startAtEnd b s).grp.dupLatch = s.grp.dupLatch ∧ (startAtEnd b s).grp.epoch = s.grp.epoch ∧
    (startAtEnd b s).lag.actions = s.lag.actions ∧ (startAtEnd b s).port.masks = s.port.masks ∧
    (startAtEnd b s).port.arg = s.port.arg ∧ (startAtEnd b s).judged.standby = s.judged.standby := by
  (repeat' apply And.intro) <;>
  first | (simp [startAtEnd]; done) | rfl | (simp only [startAtEnd, whenever]; (repeat' split) <;> simp; done) | (unfold startAtEnd; (repeat' split) <;> simp [whenever] <;> (repeat' split) <;> simp; done)

@[simp] theorem periodPasses_frame (s : State) :
    (periodPasses s).now = s.now ∧ (periodPasses s).pending = s.pending ∧ (periodPasses s).src = s.src ∧
    (periodPasses s).mem = s.mem ∧ (periodPasses s).ctl = s.ctl ∧ (periodPasses s).ldr = s.ldr ∧
    (periodPasses s).cfg = s.cfg ∧ (periodPasses s).lq.ring = s.lq.ring ∧ (periodPasses s).lq.outPtr = s.lq.outPtr ∧
    (periodPasses s).lq.staging = s.lq.staging ∧ (periodPasses s).bus.engine = s.bus.engine ∧
    (periodPasses s).bus.idleCount = s.bus.idleCount ∧ (periodPasses s).bus.reg = s.bus.reg ∧
    (periodPasses s).bus.holdoff = s.bus.holdoff ∧ (periodPasses s).bus.mute = s.bus.mute ∧
    (periodPasses s).bus.muteAges = s.bus.muteAges ∧ (periodPasses s).bus.recessiveFrom = s.bus.recessiveFrom ∧
    (periodPasses s).bus.runFrom = s.bus.runFrom ∧ (periodPasses s).bus.startEpoch = s.bus.startEpoch ∧
    (periodPasses s).bus.bitTime = s.bus.bitTime ∧ (periodPasses s).grp.membership = s.grp.membership ∧
    (periodPasses s).grp.peers = s.grp.peers ∧ (periodPasses s).grp.refusal = s.grp.refusal ∧
    (periodPasses s).grp.dupLatch = s.grp.dupLatch ∧ (periodPasses s).grp.epoch = s.grp.epoch ∧
    (periodPasses s).lag.actions = s.lag.actions ∧ (periodPasses s).port.masks = s.port.masks ∧
    (periodPasses s).port.arg = s.port.arg ∧ (periodPasses s).judged.standby = s.judged.standby := by
  (repeat' apply And.intro) <;>
  first | (simp [periodPasses]; done) | rfl | (simp only [periodPasses, whenever]; (repeat' split) <;> simp; done) | (unfold periodPasses; (repeat' split) <;> simp [whenever] <;> (repeat' split) <;> simp; done)

@[simp] theorem repeatOrder_frame (s : State) :
    (repeatOrder s).now = s.now ∧ (repeatOrder s).pending = s.pending ∧ (repeatOrder s).src = s.src ∧
    (repeatOrder s).mem = s.mem ∧ (repeatOrder s).ctl = s.ctl ∧ (repeatOrder s).ldr = s.ldr ∧
    (repeatOrder s).cfg = s.cfg ∧ (repeatOrder s).lq.ring = s.lq.ring ∧ (repeatOrder s).lq.outPtr = s.lq.outPtr ∧
    (repeatOrder s).lq.staging = s.lq.staging ∧ (repeatOrder s).bus.engine = s.bus.engine ∧
    (repeatOrder s).bus.idleCount = s.bus.idleCount ∧ (repeatOrder s).bus.reg = s.bus.reg ∧
    (repeatOrder s).bus.holdoff = s.bus.holdoff ∧ (repeatOrder s).bus.mute = s.bus.mute ∧
    (repeatOrder s).bus.muteAges = s.bus.muteAges ∧ (repeatOrder s).bus.recessiveFrom = s.bus.recessiveFrom ∧
    (repeatOrder s).bus.runFrom = s.bus.runFrom ∧ (repeatOrder s).bus.startEpoch = s.bus.startEpoch ∧
    (repeatOrder s).bus.bitTime = s.bus.bitTime ∧ (repeatOrder s).grp.membership = s.grp.membership ∧
    (repeatOrder s).grp.peers = s.grp.peers ∧ (repeatOrder s).grp.refusal = s.grp.refusal ∧
    (repeatOrder s).grp.dupLatch = s.grp.dupLatch ∧ (repeatOrder s).grp.epoch = s.grp.epoch ∧
    (repeatOrder s).lag.actions = s.lag.actions ∧ (repeatOrder s).port.masks = s.port.masks ∧
    (repeatOrder s).port.arg = s.port.arg ∧ (repeatOrder s).judged.standby = s.judged.standby := by
  (repeat' apply And.intro) <;>
  first | (simp [repeatOrder]; done) | rfl | (simp only [repeatOrder, whenever]; (repeat' split) <;> simp; done) | (unfold repeatOrder; (repeat' split) <;> simp [whenever] <;> (repeat' split) <;> simp; done)

@[simp] theorem admitToScan_frame (x : Serial) (s : State) :
    (admitToScan x s).now = s.now ∧ (admitToScan x s).pending = s.pending ∧ (admitToScan x s).src = s.src ∧
    (admitToScan x s).lq = s.lq ∧ (admitToScan x s).mem = s.mem ∧ (admitToScan x s).grp = s.grp ∧
    (admitToScan x s).ctl = s.ctl ∧ (admitToScan x s).ovl = s.ovl ∧ (admitToScan x s).ldr = s.ldr ∧
    (admitToScan x s).cfg = s.cfg ∧ (admitToScan x s).judged = s.judged ∧
    (admitToScan x s).scan.lastStart = s.scan.lastStart ∧ (admitToScan x s).scan.prog = s.scan.prog ∧
    (admitToScan x s).scan.shown = s.scan.shown ∧ (admitToScan x s).scan.margin = s.scan.margin ∧
    (admitToScan x s).scan.cleanRun = s.scan.cleanRun ∧ (admitToScan x s).scan.ownLead = s.scan.ownLead ∧
    (admitToScan x s).scan.holdInUse = s.scan.holdInUse ∧ (admitToScan x s).bus.engine = s.bus.engine ∧
    (admitToScan x s).bus.idleCount = s.bus.idleCount ∧ (admitToScan x s).bus.reg = s.bus.reg ∧
    (admitToScan x s).bus.holdoff = s.bus.holdoff ∧ (admitToScan x s).bus.mute = s.bus.mute ∧
    (admitToScan x s).bus.muteAges = s.bus.muteAges ∧ (admitToScan x s).bus.recessiveFrom = s.bus.recessiveFrom ∧
    (admitToScan x s).bus.runFrom = s.bus.runFrom ∧ (admitToScan x s).bus.startEpoch = s.bus.startEpoch ∧
    (admitToScan x s).bus.bitTime = s.bus.bitTime ∧ (admitToScan x s).lag.actions = s.lag.actions ∧
    (admitToScan x s).port.masks = s.port.masks ∧ (admitToScan x s).port.arg = s.port.arg := by
  (repeat' apply And.intro) <;>
  first | (simp [admitToScan]; done) | rfl | (simp only [admitToScan, whenever]; (repeat' split) <;> simp; done) | (unfold admitToScan; (repeat' split) <;> simp [whenever] <;> (repeat' split) <;> simp; done)

@[simp] theorem endAtScan_frame (x : Serial) (s : State) :
    (endAtScan x s).now = s.now ∧ (endAtScan x s).pending = s.pending ∧ (endAtScan x s).src = s.src ∧
    (endAtScan x s).lq = s.lq ∧ (endAtScan x s).mem = s.mem ∧ (endAtScan x s).bus = s.bus ∧
    (endAtScan x s).grp = s.grp ∧ (endAtScan x s).ctl = s.ctl ∧ (endAtScan x s).ovl = s.ovl ∧
    (endAtScan x s).lag = s.lag ∧ (endAtScan x s).ldr = s.ldr ∧ (endAtScan x s).cfg = s.cfg ∧
    (endAtScan x s).port = s.port ∧ (endAtScan x s).judged = s.judged ∧ (endAtScan x s).scan.st = s.scan.st ∧
    (endAtScan x s).scan.lastStart = s.scan.lastStart ∧ (endAtScan x s).scan.prog = s.scan.prog ∧
    (endAtScan x s).scan.shown = s.scan.shown ∧ (endAtScan x s).scan.margin = s.scan.margin ∧
    (endAtScan x s).scan.cleanRun = s.scan.cleanRun ∧ (endAtScan x s).scan.ownLead = s.scan.ownLead ∧
    (endAtScan x s).scan.holdInUse = s.scan.holdInUse := by
  (repeat' apply And.intro) <;>
  first | (simp [endAtScan]; done) | rfl | (simp only [endAtScan, whenever]; (repeat' split) <;> simp; done) | (unfold endAtScan; (repeat' split) <;> simp [whenever] <;> (repeat' split) <;> simp; done)

@[simp] theorem readRow_frame (s : State) :
    (readRow s).now = s.now ∧ (readRow s).pending = s.pending ∧ (readRow s).src = s.src ∧ (readRow s).grp = s.grp ∧
    (readRow s).ctl = s.ctl ∧ (readRow s).ovl = s.ovl ∧ (readRow s).ldr = s.ldr ∧ (readRow s).cfg = s.cfg ∧
    (readRow s).judged = s.judged ∧ (readRow s).lq.ring = s.lq.ring ∧ (readRow s).lq.outPtr = s.lq.outPtr ∧
    (readRow s).lq.staging = s.lq.staging ∧ (readRow s).scan.st = s.scan.st ∧
    (readRow s).scan.lastStart = s.scan.lastStart ∧ (readRow s).scan.shown = s.scan.shown ∧
    (readRow s).scan.waiting = s.scan.waiting ∧ (readRow s).scan.margin = s.scan.margin ∧
    (readRow s).scan.cleanRun = s.scan.cleanRun ∧ (readRow s).scan.ownLead = s.scan.ownLead ∧
    (readRow s).scan.holdInUse = s.scan.holdInUse ∧ (readRow s).bus.engine = s.bus.engine ∧
    (readRow s).bus.idleCount = s.bus.idleCount ∧ (readRow s).bus.reg = s.bus.reg ∧
    (readRow s).bus.holdoff = s.bus.holdoff ∧ (readRow s).bus.mute = s.bus.mute ∧
    (readRow s).bus.muteAges = s.bus.muteAges ∧ (readRow s).bus.recessiveFrom = s.bus.recessiveFrom ∧
    (readRow s).bus.runFrom = s.bus.runFrom ∧ (readRow s).bus.startEpoch = s.bus.startEpoch ∧
    (readRow s).bus.bitTime = s.bus.bitTime ∧ (readRow s).lag.actions = s.lag.actions ∧
    (readRow s).port.masks = s.port.masks ∧ (readRow s).port.arg = s.port.arg := by
  (repeat' apply And.intro) <;>
  first | (simp [readRow]; done) | rfl | (simp only [readRow, whenever]; (repeat' split) <;> simp; done) | (unfold readRow; (repeat' split) <;> simp [whenever] <;> (repeat' split) <;> simp; done)

@[simp] theorem endScan_frame (s : State) :
    (endScan s).now = s.now ∧ (endScan s).pending = s.pending ∧ (endScan s).src = s.src ∧ (endScan s).mem = s.mem ∧
    (endScan s).ctl = s.ctl ∧ (endScan s).ovl = s.ovl ∧ (endScan s).ldr = s.ldr ∧ (endScan s).cfg = s.cfg ∧
    (endScan s).judged = s.judged ∧ (endScan s).lq.ring = s.lq.ring ∧ (endScan s).lq.outPtr = s.lq.outPtr ∧
    (endScan s).lq.staging = s.lq.staging ∧ (endScan s).bus.engine = s.bus.engine ∧
    (endScan s).bus.idleCount = s.bus.idleCount ∧ (endScan s).bus.reg = s.bus.reg ∧
    (endScan s).bus.holdoff = s.bus.holdoff ∧ (endScan s).bus.mute = s.bus.mute ∧
    (endScan s).bus.muteAges = s.bus.muteAges ∧ (endScan s).bus.recessiveFrom = s.bus.recessiveFrom ∧
    (endScan s).bus.runFrom = s.bus.runFrom ∧ (endScan s).bus.startEpoch = s.bus.startEpoch ∧
    (endScan s).bus.bitTime = s.bus.bitTime ∧ (endScan s).grp.membership = s.grp.membership ∧
    (endScan s).grp.peers = s.grp.peers ∧ (endScan s).grp.refusal = s.grp.refusal ∧
    (endScan s).grp.dupLatch = s.grp.dupLatch ∧ (endScan s).grp.epoch = s.grp.epoch ∧
    (endScan s).lag.actions = s.lag.actions ∧ (endScan s).port.masks = s.port.masks ∧
    (endScan s).port.arg = s.port.arg := by
  (repeat' apply And.intro) <;>
  first | (simp [endScan]; done) | rfl | (simp only [endScan, whenever]; (repeat' split) <;> simp; done) | (unfold endScan; (repeat' split) <;> simp [whenever] <;> (repeat' split) <;> simp; done)

@[simp] theorem cutScan_frame (s : State) :
    (cutScan s).now = s.now ∧ (cutScan s).pending = s.pending ∧ (cutScan s).src = s.src ∧ (cutScan s).mem = s.mem ∧
    (cutScan s).ctl = s.ctl ∧ (cutScan s).ovl = s.ovl ∧ (cutScan s).ldr = s.ldr ∧ (cutScan s).cfg = s.cfg ∧
    (cutScan s).judged = s.judged ∧ (cutScan s).lq.ring = s.lq.ring ∧ (cutScan s).lq.outPtr = s.lq.outPtr ∧
    (cutScan s).lq.staging = s.lq.staging ∧ (cutScan s).bus.engine = s.bus.engine ∧
    (cutScan s).bus.idleCount = s.bus.idleCount ∧ (cutScan s).bus.reg = s.bus.reg ∧
    (cutScan s).bus.holdoff = s.bus.holdoff ∧ (cutScan s).bus.mute = s.bus.mute ∧
    (cutScan s).bus.muteAges = s.bus.muteAges ∧ (cutScan s).bus.recessiveFrom = s.bus.recessiveFrom ∧
    (cutScan s).bus.runFrom = s.bus.runFrom ∧ (cutScan s).bus.startEpoch = s.bus.startEpoch ∧
    (cutScan s).bus.bitTime = s.bus.bitTime ∧ (cutScan s).grp.membership = s.grp.membership ∧
    (cutScan s).grp.peers = s.grp.peers ∧ (cutScan s).grp.refusal = s.grp.refusal ∧
    (cutScan s).grp.dupLatch = s.grp.dupLatch ∧ (cutScan s).grp.epoch = s.grp.epoch ∧
    (cutScan s).lag.actions = s.lag.actions ∧ (cutScan s).port.masks = s.port.masks ∧
    (cutScan s).port.arg = s.port.arg := by
  (repeat' apply And.intro) <;>
  first | (simp [cutScan]; done) | rfl | (simp only [cutScan, whenever]; (repeat' split) <;> simp; done) | (unfold cutScan; (repeat' split) <;> simp [whenever] <;> (repeat' split) <;> simp; done)

@[simp] theorem quietScan_frame (s : State) :
    (quietScan s).now = s.now ∧ (quietScan s).pending = s.pending ∧ (quietScan s).src = s.src ∧
    (quietScan s).lq = s.lq ∧ (quietScan s).mem = s.mem ∧ (quietScan s).grp = s.grp ∧ (quietScan s).ctl = s.ctl ∧
    (quietScan s).ovl = s.ovl ∧ (quietScan s).lag = s.lag ∧ (quietScan s).ldr = s.ldr ∧ (quietScan s).cfg = s.cfg ∧
    (quietScan s).port = s.port ∧ (quietScan s).scan.shown = s.scan.shown ∧
    (quietScan s).scan.margin = s.scan.margin ∧ (quietScan s).scan.cleanRun = s.scan.cleanRun ∧
    (quietScan s).scan.ownLead = s.scan.ownLead ∧ (quietScan s).scan.holdInUse = s.scan.holdInUse ∧
    (quietScan s).bus.engine = s.bus.engine ∧ (quietScan s).bus.idleCount = s.bus.idleCount ∧
    (quietScan s).bus.reg = s.bus.reg ∧ (quietScan s).bus.holdoff = s.bus.holdoff ∧
    (quietScan s).bus.mute = s.bus.mute ∧ (quietScan s).bus.muteAges = s.bus.muteAges ∧
    (quietScan s).bus.recessiveFrom = s.bus.recessiveFrom ∧ (quietScan s).bus.runFrom = s.bus.runFrom ∧
    (quietScan s).bus.startEpoch = s.bus.startEpoch ∧ (quietScan s).bus.bitTime = s.bus.bitTime ∧
    (quietScan s).judged.standby = s.judged.standby := by
  (repeat' apply And.intro) <;>
  first | (simp [quietScan]; done) | rfl | (simp only [quietScan, whenever]; (repeat' split) <;> simp; done) | (unfold quietScan; (repeat' split) <;> simp [whenever] <;> (repeat' split) <;> simp; done)

@[simp] theorem queueRepeat_frame (s : State) :
    (queueRepeat s).now = s.now ∧ (queueRepeat s).pending = s.pending ∧ (queueRepeat s).src = s.src ∧
    (queueRepeat s).lq = s.lq ∧ (queueRepeat s).mem = s.mem ∧ (queueRepeat s).grp = s.grp ∧
    (queueRepeat s).ctl = s.ctl ∧ (queueRepeat s).ovl = s.ovl ∧ (queueRepeat s).lag = s.lag ∧
    (queueRepeat s).ldr = s.ldr ∧ (queueRepeat s).cfg = s.cfg ∧ (queueRepeat s).port = s.port ∧
    (queueRepeat s).judged = s.judged ∧ (queueRepeat s).scan.st = s.scan.st ∧
    (queueRepeat s).scan.lastStart = s.scan.lastStart ∧ (queueRepeat s).scan.prog = s.scan.prog ∧
    (queueRepeat s).scan.shown = s.scan.shown ∧ (queueRepeat s).scan.waiting = s.scan.waiting ∧
    (queueRepeat s).scan.margin = s.scan.margin ∧ (queueRepeat s).scan.cleanRun = s.scan.cleanRun ∧
    (queueRepeat s).scan.ownLead = s.scan.ownLead ∧ (queueRepeat s).scan.holdInUse = s.scan.holdInUse ∧
    (queueRepeat s).bus.engine = s.bus.engine ∧ (queueRepeat s).bus.idleCount = s.bus.idleCount ∧
    (queueRepeat s).bus.reg = s.bus.reg ∧ (queueRepeat s).bus.holdoff = s.bus.holdoff ∧
    (queueRepeat s).bus.mute = s.bus.mute ∧ (queueRepeat s).bus.muteAges = s.bus.muteAges ∧
    (queueRepeat s).bus.recessiveFrom = s.bus.recessiveFrom ∧ (queueRepeat s).bus.runFrom = s.bus.runFrom ∧
    (queueRepeat s).bus.startEpoch = s.bus.startEpoch ∧ (queueRepeat s).bus.bitTime = s.bus.bitTime := by
  (repeat' apply And.intro) <;>
  first | (simp [queueRepeat]; done) | rfl | (simp only [queueRepeat, whenever]; (repeat' split) <;> simp; done) | (unfold queueRepeat; (repeat' split) <;> simp [whenever] <;> (repeat' split) <;> simp; done)

@[simp] theorem repeatAlone_frame (s : State) :
    (repeatAlone s).now = s.now ∧ (repeatAlone s).pending = s.pending ∧ (repeatAlone s).src = s.src ∧
    (repeatAlone s).mem = s.mem ∧ (repeatAlone s).ctl = s.ctl ∧ (repeatAlone s).ldr = s.ldr ∧
    (repeatAlone s).cfg = s.cfg ∧ (repeatAlone s).lq.ring = s.lq.ring ∧ (repeatAlone s).lq.outPtr = s.lq.outPtr ∧
    (repeatAlone s).lq.staging = s.lq.staging ∧ (repeatAlone s).bus.engine = s.bus.engine ∧
    (repeatAlone s).bus.idleCount = s.bus.idleCount ∧ (repeatAlone s).bus.reg = s.bus.reg ∧
    (repeatAlone s).bus.holdoff = s.bus.holdoff ∧ (repeatAlone s).bus.mute = s.bus.mute ∧
    (repeatAlone s).bus.recessiveFrom = s.bus.recessiveFrom ∧ (repeatAlone s).bus.runFrom = s.bus.runFrom ∧
    (repeatAlone s).bus.startEpoch = s.bus.startEpoch ∧ (repeatAlone s).bus.bitTime = s.bus.bitTime ∧
    (repeatAlone s).port.masks = s.port.masks ∧ (repeatAlone s).port.arg = s.port.arg ∧
    (repeatAlone s).judged.standby = s.judged.standby := by
  (repeat' apply And.intro) <;>
  first | (simp [repeatAlone]; done) | rfl | (simp only [repeatAlone, whenever]; (repeat' split) <;> simp; done) | (unfold repeatAlone; (repeat' split) <;> simp [whenever] <;> (repeat' split) <;> simp; done)

@[simp] theorem setLock_frame (l : Lock) (s : State) :
    (setLock l s).now = s.now ∧ (setLock l s).pending = s.pending ∧ (setLock l s).lq = s.lq ∧
    (setLock l s).mem = s.mem ∧ (setLock l s).scan = s.scan ∧ (setLock l s).ovl = s.ovl ∧
    (setLock l s).ldr = s.ldr ∧ (setLock l s).cfg = s.cfg ∧ (setLock l s).judged = s.judged ∧
    (setLock l s).src.fails = s.src.fails ∧ (setLock l s).src.frameOpen = s.src.frameOpen ∧
    (setLock l s).src.serial = s.src.serial ∧ (setLock l s).src.raster = s.src.raster ∧
    (setLock l s).src.line = s.src.line ∧ (setLock l s).src.fill = s.src.fill ∧
    (setLock l s).src.running = s.src.running ∧ (setLock l s).bus.engine = s.bus.engine ∧
    (setLock l s).bus.idleCount = s.bus.idleCount ∧ (setLock l s).bus.reg = s.bus.reg ∧
    (setLock l s).bus.holdoff = s.bus.holdoff ∧ (setLock l s).bus.mute = s.bus.mute ∧
    (setLock l s).bus.muteAges = s.bus.muteAges ∧ (setLock l s).bus.recessiveFrom = s.bus.recessiveFrom ∧
    (setLock l s).bus.runFrom = s.bus.runFrom ∧ (setLock l s).bus.startEpoch = s.bus.startEpoch ∧
    (setLock l s).bus.bitTime = s.bus.bitTime ∧ (setLock l s).grp.membership = s.grp.membership ∧
    (setLock l s).grp.peers = s.grp.peers ∧ (setLock l s).grp.refusal = s.grp.refusal ∧
    (setLock l s).grp.dupLatch = s.grp.dupLatch ∧ (setLock l s).grp.epoch = s.grp.epoch ∧
    (setLock l s).ctl.st = s.ctl.st ∧ (setLock l s).ctl.held = s.ctl.held ∧
    (setLock l s).ctl.station = s.ctl.station ∧ (setLock l s).ctl.departure = s.ctl.departure ∧
    (setLock l s).ctl.sleepFails = s.ctl.sleepFails ∧ (setLock l s).ctl.warm = s.ctl.warm ∧
    (setLock l s).lag.actions = s.lag.actions ∧ (setLock l s).port.masks = s.port.masks ∧
    (setLock l s).port.arg = s.port.arg := by
  (repeat' apply And.intro) <;>
  first | (simp [setLock]; done) | rfl | (simp only [setLock, whenever]; (repeat' split) <;> simp; done) | (unfold setLock; (repeat' split) <;> simp [whenever] <;> (repeat' split) <;> simp; done)

@[simp] theorem endFrame_frame (s : State) :
    (endFrame s).now = s.now ∧ (endFrame s).pending = s.pending ∧ (endFrame s).lq = s.lq ∧
    (endFrame s).mem = s.mem ∧ (endFrame s).bus = s.bus ∧ (endFrame s).grp = s.grp ∧ (endFrame s).ctl = s.ctl ∧
    (endFrame s).ovl = s.ovl ∧ (endFrame s).lag = s.lag ∧ (endFrame s).ldr = s.ldr ∧ (endFrame s).cfg = s.cfg ∧
    (endFrame s).port = s.port ∧ (endFrame s).judged = s.judged ∧ (endFrame s).src.lock = s.src.lock ∧
    (endFrame s).src.fails = s.src.fails ∧ (endFrame s).src.serial = s.src.serial ∧
    (endFrame s).src.raster = s.src.raster ∧ (endFrame s).src.line = s.src.line ∧
    (endFrame s).src.fill = s.src.fill ∧ (endFrame s).src.running = s.src.running ∧
    (endFrame s).scan.st = s.scan.st ∧ (endFrame s).scan.lastStart = s.scan.lastStart ∧
    (endFrame s).scan.prog = s.scan.prog ∧ (endFrame s).scan.shown = s.scan.shown ∧
    (endFrame s).scan.margin = s.scan.margin ∧ (endFrame s).scan.cleanRun = s.scan.cleanRun ∧
    (endFrame s).scan.ownLead = s.scan.ownLead ∧ (endFrame s).scan.holdInUse = s.scan.holdInUse := by
  (repeat' apply And.intro) <;>
  first | (simp [endFrame]; done) | rfl | (simp only [endFrame, whenever]; (repeat' split) <;> simp; done) | (unfold endFrame; (repeat' split) <;> simp [whenever] <;> (repeat' split) <;> simp; done)

@[simp] theorem lockLoss_frame (l : Lock) (s : State) :
    (lockLoss l s).now = s.now ∧ (lockLoss l s).pending = s.pending ∧ (lockLoss l s).mem = s.mem ∧
    (lockLoss l s).ovl = s.ovl ∧ (lockLoss l s).ldr = s.ldr ∧ (lockLoss l s).cfg = s.cfg ∧
    (lockLoss l s).judged = s.judged ∧ (lockLoss l s).lq.outPtr = s.lq.outPtr ∧
    (lockLoss l s).lq.writer = s.lq.writer ∧ (lockLoss l s).lq.staging = s.lq.staging ∧
    (lockLoss l s).scan.st = s.scan.st ∧ (lockLoss l s).scan.lastStart = s.scan.lastStart ∧
    (lockLoss l s).scan.prog = s.scan.prog ∧ (lockLoss l s).scan.shown = s.scan.shown ∧
    (lockLoss l s).scan.margin = s.scan.margin ∧ (lockLoss l s).scan.cleanRun = s.scan.cleanRun ∧
    (lockLoss l s).scan.ownLead = s.scan.ownLead ∧ (lockLoss l s).scan.holdInUse = s.scan.holdInUse ∧
    (lockLoss l s).bus.engine = s.bus.engine ∧ (lockLoss l s).bus.idleCount = s.bus.idleCount ∧
    (lockLoss l s).bus.reg = s.bus.reg ∧ (lockLoss l s).bus.holdoff = s.bus.holdoff ∧
    (lockLoss l s).bus.mute = s.bus.mute ∧ (lockLoss l s).bus.muteAges = s.bus.muteAges ∧
    (lockLoss l s).bus.recessiveFrom = s.bus.recessiveFrom ∧ (lockLoss l s).bus.runFrom = s.bus.runFrom ∧
    (lockLoss l s).bus.startEpoch = s.bus.startEpoch ∧ (lockLoss l s).bus.bitTime = s.bus.bitTime ∧
    (lockLoss l s).grp.membership = s.grp.membership ∧ (lockLoss l s).grp.peers = s.grp.peers ∧
    (lockLoss l s).grp.refusal = s.grp.refusal ∧ (lockLoss l s).grp.dupLatch = s.grp.dupLatch ∧
    (lockLoss l s).grp.epoch = s.grp.epoch ∧ (lockLoss l s).ctl.st = s.ctl.st ∧
    (lockLoss l s).ctl.held = s.ctl.held ∧ (lockLoss l s).ctl.station = s.ctl.station ∧
    (lockLoss l s).ctl.departure = s.ctl.departure ∧ (lockLoss l s).ctl.sleepFails = s.ctl.sleepFails ∧
    (lockLoss l s).ctl.warm = s.ctl.warm ∧ (lockLoss l s).lag.actions = s.lag.actions ∧
    (lockLoss l s).port.masks = s.port.masks ∧ (lockLoss l s).port.arg = s.port.arg := by
  (repeat' apply And.intro) <;>
  first | (simp [lockLoss]; done) | rfl | (simp only [lockLoss, whenever]; (repeat' split) <;> simp; done) | (unfold lockLoss; (repeat' split) <;> simp [whenever] <;> (repeat' split) <;> simp; done)

@[simp] theorem leaveLock_frame (l : Lock) (s : State) :
    (leaveLock l s).now = s.now ∧ (leaveLock l s).pending = s.pending ∧ (leaveLock l s).mem = s.mem ∧
    (leaveLock l s).ovl = s.ovl ∧ (leaveLock l s).ldr = s.ldr ∧ (leaveLock l s).cfg = s.cfg ∧
    (leaveLock l s).judged = s.judged ∧ (leaveLock l s).lq.outPtr = s.lq.outPtr ∧
    (leaveLock l s).lq.writer = s.lq.writer ∧ (leaveLock l s).lq.staging = s.lq.staging ∧
    (leaveLock l s).scan.st = s.scan.st ∧ (leaveLock l s).scan.lastStart = s.scan.lastStart ∧
    (leaveLock l s).scan.prog = s.scan.prog ∧ (leaveLock l s).scan.shown = s.scan.shown ∧
    (leaveLock l s).scan.margin = s.scan.margin ∧ (leaveLock l s).scan.cleanRun = s.scan.cleanRun ∧
    (leaveLock l s).scan.ownLead = s.scan.ownLead ∧ (leaveLock l s).scan.holdInUse = s.scan.holdInUse ∧
    (leaveLock l s).bus.engine = s.bus.engine ∧ (leaveLock l s).bus.idleCount = s.bus.idleCount ∧
    (leaveLock l s).bus.reg = s.bus.reg ∧ (leaveLock l s).bus.holdoff = s.bus.holdoff ∧
    (leaveLock l s).bus.mute = s.bus.mute ∧ (leaveLock l s).bus.muteAges = s.bus.muteAges ∧
    (leaveLock l s).bus.recessiveFrom = s.bus.recessiveFrom ∧ (leaveLock l s).bus.runFrom = s.bus.runFrom ∧
    (leaveLock l s).bus.startEpoch = s.bus.startEpoch ∧ (leaveLock l s).bus.bitTime = s.bus.bitTime ∧
    (leaveLock l s).grp.membership = s.grp.membership ∧ (leaveLock l s).grp.peers = s.grp.peers ∧
    (leaveLock l s).grp.refusal = s.grp.refusal ∧ (leaveLock l s).grp.dupLatch = s.grp.dupLatch ∧
    (leaveLock l s).grp.epoch = s.grp.epoch ∧ (leaveLock l s).ctl.st = s.ctl.st ∧
    (leaveLock l s).ctl.held = s.ctl.held ∧ (leaveLock l s).ctl.station = s.ctl.station ∧
    (leaveLock l s).ctl.departure = s.ctl.departure ∧ (leaveLock l s).ctl.sleepFails = s.ctl.sleepFails ∧
    (leaveLock l s).ctl.warm = s.ctl.warm ∧ (leaveLock l s).lag.actions = s.lag.actions ∧
    (leaveLock l s).port.masks = s.port.masks ∧ (leaveLock l s).port.arg = s.port.arg := by
  (repeat' apply And.intro) <;>
  first | (simp [leaveLock]; done) | rfl | (simp only [leaveLock, whenever]; (repeat' split) <;> simp; done) | (unfold leaveLock; (repeat' split) <;> simp [whenever] <;> (repeat' split) <;> simp; done)

@[simp] theorem admitFrame_frame (m : FsMark) (s : State) :
    (admitFrame m s).now = s.now ∧ (admitFrame m s).pending = s.pending ∧ (admitFrame m s).mem = s.mem ∧
    (admitFrame m s).ctl = s.ctl ∧ (admitFrame m s).ovl = s.ovl ∧ (admitFrame m s).ldr = s.ldr ∧
    (admitFrame m s).cfg = s.cfg ∧ (admitFrame m s).judged = s.judged ∧ (admitFrame m s).lq.ring = s.lq.ring ∧
    (admitFrame m s).lq.outPtr = s.lq.outPtr ∧ (admitFrame m s).lq.writer = s.lq.writer ∧
    (admitFrame m s).lq.staging = s.lq.staging ∧ (admitFrame m s).scan.lastStart = s.scan.lastStart ∧
    (admitFrame m s).scan.prog = s.scan.prog ∧ (admitFrame m s).scan.shown = s.scan.shown ∧
    (admitFrame m s).scan.margin = s.scan.margin ∧ (admitFrame m s).scan.cleanRun = s.scan.cleanRun ∧
    (admitFrame m s).scan.ownLead = s.scan.ownLead ∧ (admitFrame m s).scan.holdInUse = s.scan.holdInUse ∧
    (admitFrame m s).bus.engine = s.bus.engine ∧ (admitFrame m s).bus.idleCount = s.bus.idleCount ∧
    (admitFrame m s).bus.reg = s.bus.reg ∧ (admitFrame m s).bus.holdoff = s.bus.holdoff ∧
    (admitFrame m s).bus.mute = s.bus.mute ∧ (admitFrame m s).bus.recessiveFrom = s.bus.recessiveFrom ∧
    (admitFrame m s).bus.runFrom = s.bus.runFrom ∧ (admitFrame m s).bus.startEpoch = s.bus.startEpoch ∧
    (admitFrame m s).bus.bitTime = s.bus.bitTime ∧ (admitFrame m s).port.masks = s.port.masks ∧
    (admitFrame m s).port.arg = s.port.arg := by
  (repeat' apply And.intro) <;>
  first | (simp [admitFrame]; done) | rfl | (simp only [admitFrame, whenever]; (repeat' split) <;> simp; done) | (unfold admitFrame; (repeat' split) <;> simp [whenever] <;> (repeat' split) <;> simp; done)

@[simp] theorem acquireLock_frame (s : State) :
    (acquireLock s).now = s.now ∧ (acquireLock s).pending = s.pending ∧ (acquireLock s).lq = s.lq ∧
    (acquireLock s).mem = s.mem ∧ (acquireLock s).scan = s.scan ∧ (acquireLock s).ovl = s.ovl ∧
    (acquireLock s).ldr = s.ldr ∧ (acquireLock s).cfg = s.cfg ∧ (acquireLock s).judged = s.judged ∧
    (acquireLock s).src.frameOpen = s.src.frameOpen ∧ (acquireLock s).src.serial = s.src.serial ∧
    (acquireLock s).src.raster = s.src.raster ∧ (acquireLock s).src.line = s.src.line ∧
    (acquireLock s).src.fill = s.src.fill ∧ (acquireLock s).src.running = s.src.running ∧
    (acquireLock s).bus.engine = s.bus.engine ∧ (acquireLock s).bus.idleCount = s.bus.idleCount ∧
    (acquireLock s).bus.reg = s.bus.reg ∧ (acquireLock s).bus.holdoff = s.bus.holdoff ∧
    (acquireLock s).bus.mute = s.bus.mute ∧ (acquireLock s).bus.muteAges = s.bus.muteAges ∧
    (acquireLock s).bus.recessiveFrom = s.bus.recessiveFrom ∧ (acquireLock s).bus.runFrom = s.bus.runFrom ∧
    (acquireLock s).bus.startEpoch = s.bus.startEpoch ∧ (acquireLock s).bus.bitTime = s.bus.bitTime ∧
    (acquireLock s).grp.membership = s.grp.membership ∧ (acquireLock s).grp.peers = s.grp.peers ∧
    (acquireLock s).grp.refusal = s.grp.refusal ∧ (acquireLock s).grp.dupLatch = s.grp.dupLatch ∧
    (acquireLock s).grp.epoch = s.grp.epoch ∧ (acquireLock s).ctl.st = s.ctl.st ∧
    (acquireLock s).ctl.held = s.ctl.held ∧ (acquireLock s).ctl.station = s.ctl.station ∧
    (acquireLock s).ctl.departure = s.ctl.departure ∧ (acquireLock s).ctl.sleepFails = s.ctl.sleepFails ∧
    (acquireLock s).ctl.warm = s.ctl.warm ∧ (acquireLock s).lag.actions = s.lag.actions ∧
    (acquireLock s).port.masks = s.port.masks ∧ (acquireLock s).port.arg = s.port.arg := by
  (repeat' apply And.intro) <;>
  first | (simp [acquireLock]; done) | rfl | (simp only [acquireLock, whenever]; (repeat' split) <;> simp; done) | (unfold acquireLock; (repeat' split) <;> simp [whenever] <;> (repeat' split) <;> simp; done)

@[simp] theorem rememberGeometry_frame (m : FsMark) (s : State) :
    (rememberGeometry m s).now = s.now ∧ (rememberGeometry m s).pending = s.pending ∧
    (rememberGeometry m s).lq = s.lq ∧ (rememberGeometry m s).mem = s.mem ∧ (rememberGeometry m s).scan = s.scan ∧
    (rememberGeometry m s).bus = s.bus ∧ (rememberGeometry m s).grp = s.grp ∧ (rememberGeometry m s).ctl = s.ctl ∧
    (rememberGeometry m s).ovl = s.ovl ∧ (rememberGeometry m s).lag = s.lag ∧ (rememberGeometry m s).ldr = s.ldr ∧
    (rememberGeometry m s).cfg = s.cfg ∧ (rememberGeometry m s).port = s.port ∧
    (rememberGeometry m s).judged = s.judged ∧ (rememberGeometry m s).src.lock = s.src.lock ∧
    (rememberGeometry m s).src.fails = s.src.fails ∧ (rememberGeometry m s).src.frameOpen = s.src.frameOpen ∧
    (rememberGeometry m s).src.serial = s.src.serial ∧ (rememberGeometry m s).src.raster = s.src.raster ∧
    (rememberGeometry m s).src.line = s.src.line ∧ (rememberGeometry m s).src.fill = s.src.fill ∧
    (rememberGeometry m s).src.running = s.src.running := by
  (repeat' apply And.intro) <;>
  first | (simp [rememberGeometry]; done) | rfl | (simp only [rememberGeometry, whenever]; (repeat' split) <;> simp; done) | (unfold rememberGeometry; (repeat' split) <;> simp [whenever] <;> (repeat' split) <;> simp; done)

@[simp] theorem claimSlot_frame (i : Nat) (s : State) :
    (claimSlot i s).now = s.now ∧ (claimSlot i s).pending = s.pending ∧ (claimSlot i s).src = s.src ∧
    (claimSlot i s).mem = s.mem ∧ (claimSlot i s).scan = s.scan ∧ (claimSlot i s).grp = s.grp ∧
    (claimSlot i s).ctl = s.ctl ∧ (claimSlot i s).ovl = s.ovl ∧ (claimSlot i s).ldr = s.ldr ∧
    (claimSlot i s).cfg = s.cfg ∧ (claimSlot i s).judged = s.judged ∧ (claimSlot i s).lq.outPtr = s.lq.outPtr ∧
    (claimSlot i s).lq.writer = s.lq.writer ∧ (claimSlot i s).lq.staging = s.lq.staging ∧
    (claimSlot i s).bus.engine = s.bus.engine ∧ (claimSlot i s).bus.idleCount = s.bus.idleCount ∧
    (claimSlot i s).bus.reg = s.bus.reg ∧ (claimSlot i s).bus.holdoff = s.bus.holdoff ∧
    (claimSlot i s).bus.mute = s.bus.mute ∧ (claimSlot i s).bus.muteAges = s.bus.muteAges ∧
    (claimSlot i s).bus.recessiveFrom = s.bus.recessiveFrom ∧ (claimSlot i s).bus.runFrom = s.bus.runFrom ∧
    (claimSlot i s).bus.startEpoch = s.bus.startEpoch ∧ (claimSlot i s).bus.bitTime = s.bus.bitTime ∧
    (claimSlot i s).lag.actions = s.lag.actions ∧ (claimSlot i s).port.masks = s.port.masks ∧
    (claimSlot i s).port.arg = s.port.arg := by
  (repeat' apply And.intro) <;>
  first | (simp [claimSlot]; done) | rfl | (simp only [claimSlot, whenever]; (repeat' split) <;> simp; done) | (unfold claimSlot; (repeat' split) <;> simp [whenever] <;> (repeat' split) <;> simp; done)

@[simp] theorem acceptLine_frame (i : Nat) (s : State) :
    (acceptLine i s).now = s.now ∧ (acceptLine i s).pending = s.pending ∧ (acceptLine i s).mem = s.mem ∧
    (acceptLine i s).scan = s.scan ∧ (acceptLine i s).grp = s.grp ∧ (acceptLine i s).ctl = s.ctl ∧
    (acceptLine i s).ovl = s.ovl ∧ (acceptLine i s).ldr = s.ldr ∧ (acceptLine i s).cfg = s.cfg ∧
    (acceptLine i s).judged = s.judged ∧ (acceptLine i s).lq.outPtr = s.lq.outPtr ∧
    (acceptLine i s).lq.writer = s.lq.writer ∧ (acceptLine i s).lq.staging = s.lq.staging ∧
    (acceptLine i s).bus.engine = s.bus.engine ∧ (acceptLine i s).bus.idleCount = s.bus.idleCount ∧
    (acceptLine i s).bus.reg = s.bus.reg ∧ (acceptLine i s).bus.holdoff = s.bus.holdoff ∧
    (acceptLine i s).bus.mute = s.bus.mute ∧ (acceptLine i s).bus.muteAges = s.bus.muteAges ∧
    (acceptLine i s).bus.recessiveFrom = s.bus.recessiveFrom ∧ (acceptLine i s).bus.runFrom = s.bus.runFrom ∧
    (acceptLine i s).bus.startEpoch = s.bus.startEpoch ∧ (acceptLine i s).bus.bitTime = s.bus.bitTime ∧
    (acceptLine i s).lag.actions = s.lag.actions ∧ (acceptLine i s).port.masks = s.port.masks ∧
    (acceptLine i s).port.arg = s.port.arg := by
  (repeat' apply And.intro) <;>
  first | (simp [acceptLine]; done) | rfl | (simp only [acceptLine, whenever]; (repeat' split) <;> simp; done) | (unfold acceptLine; (repeat' split) <;> simp [whenever] <;> (repeat' split) <;> simp; done)

@[simp] theorem restartSilence_frame (s : State) :
    (restartSilence s).now = s.now ∧ (restartSilence s).pending = s.pending ∧ (restartSilence s).lq = s.lq ∧
    (restartSilence s).mem = s.mem ∧ (restartSilence s).scan = s.scan ∧ (restartSilence s).bus = s.bus ∧
    (restartSilence s).grp = s.grp ∧ (restartSilence s).ctl = s.ctl ∧ (restartSilence s).ovl = s.ovl ∧
    (restartSilence s).lag = s.lag ∧ (restartSilence s).ldr = s.ldr ∧ (restartSilence s).cfg = s.cfg ∧
    (restartSilence s).port = s.port ∧ (restartSilence s).judged = s.judged ∧
    (restartSilence s).src.lock = s.src.lock ∧ (restartSilence s).src.fails = s.src.fails ∧
    (restartSilence s).src.frameOpen = s.src.frameOpen ∧ (restartSilence s).src.serial = s.src.serial ∧
    (restartSilence s).src.raster = s.src.raster ∧ (restartSilence s).src.line = s.src.line ∧
    (restartSilence s).src.fill = s.src.fill ∧ (restartSilence s).src.running = s.src.running := by
  (repeat' apply And.intro) <;>
  first | (simp [restartSilence]; done) | rfl | (simp only [restartSilence, whenever]; (repeat' split) <;> simp; done) | (unfold restartSilence; (repeat' split) <;> simp [whenever] <;> (repeat' split) <;> simp; done)

@[simp] theorem takePayload_frame (b : Byte) (s : State) :
    (takePayload b s).now = s.now ∧ (takePayload b s).pending = s.pending ∧ (takePayload b s).mem = s.mem ∧
    (takePayload b s).scan = s.scan ∧ (takePayload b s).bus = s.bus ∧ (takePayload b s).grp = s.grp ∧
    (takePayload b s).ctl = s.ctl ∧ (takePayload b s).ovl = s.ovl ∧ (takePayload b s).lag = s.lag ∧
    (takePayload b s).ldr = s.ldr ∧ (takePayload b s).cfg = s.cfg ∧ (takePayload b s).port = s.port ∧
    (takePayload b s).judged = s.judged ∧ (takePayload b s).src.lock = s.src.lock ∧
    (takePayload b s).src.fails = s.src.fails ∧ (takePayload b s).src.frameOpen = s.src.frameOpen ∧
    (takePayload b s).src.serial = s.src.serial ∧ (takePayload b s).src.raster = s.src.raster ∧
    (takePayload b s).src.fill = s.src.fill ∧ (takePayload b s).src.running = s.src.running ∧
    (takePayload b s).lq.outPtr = s.lq.outPtr ∧ (takePayload b s).lq.writer = s.lq.writer ∧
    (takePayload b s).lq.staging = s.lq.staging := by
  (repeat' apply And.intro) <;>
  first | (simp [takePayload]; done) | rfl | (simp only [takePayload, whenever]; (repeat' split) <;> simp; done) | (unfold takePayload; (repeat' split) <;> simp [whenever] <;> (repeat' split) <;> simp; done)

@[simp] theorem stopReceiver_frame (l : Lock) (s : State) :
    (stopReceiver l s).now = s.now ∧ (stopReceiver l s).pending = s.pending ∧ (stopReceiver l s).mem = s.mem ∧
    (stopReceiver l s).ovl = s.ovl ∧ (stopReceiver l s).ldr = s.ldr ∧ (stopReceiver l s).cfg = s.cfg ∧
    (stopReceiver l s).judged = s.judged ∧ (stopReceiver l s).lq.outPtr = s.lq.outPtr ∧
    (stopReceiver l s).lq.writer = s.lq.writer ∧ (stopReceiver l s).lq.staging = s.lq.staging ∧
    (stopReceiver l s).scan.st = s.scan.st ∧ (stopReceiver l s).scan.lastStart = s.scan.lastStart ∧
    (stopReceiver l s).scan.prog = s.scan.prog ∧ (stopReceiver l s).scan.shown = s.scan.shown ∧
    (stopReceiver l s).scan.margin = s.scan.margin ∧ (stopReceiver l s).scan.cleanRun = s.scan.cleanRun ∧
    (stopReceiver l s).scan.ownLead = s.scan.ownLead ∧ (stopReceiver l s).scan.holdInUse = s.scan.holdInUse ∧
    (stopReceiver l s).bus.engine = s.bus.engine ∧ (stopReceiver l s).bus.idleCount = s.bus.idleCount ∧
    (stopReceiver l s).bus.reg = s.bus.reg ∧ (stopReceiver l s).bus.holdoff = s.bus.holdoff ∧
    (stopReceiver l s).bus.mute = s.bus.mute ∧ (stopReceiver l s).bus.muteAges = s.bus.muteAges ∧
    (stopReceiver l s).bus.recessiveFrom = s.bus.recessiveFrom ∧ (stopReceiver l s).bus.runFrom = s.bus.runFrom ∧
    (stopReceiver l s).bus.startEpoch = s.bus.startEpoch ∧ (stopReceiver l s).bus.bitTime = s.bus.bitTime ∧
    (stopReceiver l s).grp.membership = s.grp.membership ∧ (stopReceiver l s).grp.peers = s.grp.peers ∧
    (stopReceiver l s).grp.refusal = s.grp.refusal ∧ (stopReceiver l s).grp.dupLatch = s.grp.dupLatch ∧
    (stopReceiver l s).grp.epoch = s.grp.epoch ∧ (stopReceiver l s).ctl.st = s.ctl.st ∧
    (stopReceiver l s).ctl.held = s.ctl.held ∧ (stopReceiver l s).ctl.station = s.ctl.station ∧
    (stopReceiver l s).ctl.departure = s.ctl.departure ∧ (stopReceiver l s).ctl.sleepFails = s.ctl.sleepFails ∧
    (stopReceiver l s).ctl.warm = s.ctl.warm ∧ (stopReceiver l s).lag.actions = s.lag.actions ∧
    (stopReceiver l s).port.masks = s.port.masks ∧ (stopReceiver l s).port.arg = s.port.arg := by
  (repeat' apply And.intro) <;>
  first | (simp [stopReceiver]; done) | rfl | (simp only [stopReceiver, whenever]; (repeat' split) <;> simp; done) | (unfold stopReceiver; (repeat' split) <;> simp [whenever] <;> (repeat' split) <;> simp; done)

@[simp] theorem startReceiver_frame (s : State) :
    (startReceiver s).now = s.now ∧ (startReceiver s).pending = s.pending ∧ (startReceiver s).lq = s.lq ∧
    (startReceiver s).mem = s.mem ∧ (startReceiver s).scan = s.scan ∧ (startReceiver s).ovl = s.ovl ∧
    (startReceiver s).ldr = s.ldr ∧ (startReceiver s).cfg = s.cfg ∧ (startReceiver s).judged = s.judged ∧
    (startReceiver s).src.fails = s.src.fails ∧ (startReceiver s).src.frameOpen = s.src.frameOpen ∧
    (startReceiver s).src.serial = s.src.serial ∧ (startReceiver s).src.raster = s.src.raster ∧
    (startReceiver s).src.fill = s.src.fill ∧ (startReceiver s).src.running = s.src.running ∧
    (startReceiver s).bus.engine = s.bus.engine ∧ (startReceiver s).bus.idleCount = s.bus.idleCount ∧
    (startReceiver s).bus.reg = s.bus.reg ∧ (startReceiver s).bus.holdoff = s.bus.holdoff ∧
    (startReceiver s).bus.mute = s.bus.mute ∧ (startReceiver s).bus.muteAges = s.bus.muteAges ∧
    (startReceiver s).bus.recessiveFrom = s.bus.recessiveFrom ∧ (startReceiver s).bus.runFrom = s.bus.runFrom ∧
    (startReceiver s).bus.startEpoch = s.bus.startEpoch ∧ (startReceiver s).bus.bitTime = s.bus.bitTime ∧
    (startReceiver s).grp.membership = s.grp.membership ∧ (startReceiver s).grp.peers = s.grp.peers ∧
    (startReceiver s).grp.refusal = s.grp.refusal ∧ (startReceiver s).grp.dupLatch = s.grp.dupLatch ∧
    (startReceiver s).grp.epoch = s.grp.epoch ∧ (startReceiver s).ctl.st = s.ctl.st ∧
    (startReceiver s).ctl.held = s.ctl.held ∧ (startReceiver s).ctl.station = s.ctl.station ∧
    (startReceiver s).ctl.departure = s.ctl.departure ∧ (startReceiver s).ctl.sleepFails = s.ctl.sleepFails ∧
    (startReceiver s).ctl.warm = s.ctl.warm ∧ (startReceiver s).lag.actions = s.lag.actions ∧
    (startReceiver s).port.masks = s.port.masks ∧ (startReceiver s).port.arg = s.port.arg := by
  (repeat' apply And.intro) <;>
  first | (simp [startReceiver]; done) | rfl | (simp only [startReceiver, whenever]; (repeat' split) <;> simp; done) | (unfold startReceiver; (repeat' split) <;> simp [whenever] <;> (repeat' split) <;> simp; done)

@[simp] theorem receiverOn_frame (s : State) :
    (receiverOn s).now = s.now ∧ (receiverOn s).pending = s.pending ∧ (receiverOn s).src = s.src ∧
    (receiverOn s).lq = s.lq ∧ (receiverOn s).mem = s.mem ∧ (receiverOn s).scan = s.scan ∧
    (receiverOn s).grp = s.grp ∧ (receiverOn s).ctl = s.ctl ∧ (receiverOn s).ovl = s.ovl ∧
    (receiverOn s).lag = s.lag ∧ (receiverOn s).ldr = s.ldr ∧ (receiverOn s).cfg = s.cfg ∧
    (receiverOn s).port = s.port ∧ (receiverOn s).judged = s.judged ∧ (receiverOn s).bus.reg = s.bus.reg ∧
    (receiverOn s).bus.holdoff = s.bus.holdoff ∧ (receiverOn s).bus.mute = s.bus.mute ∧
    (receiverOn s).bus.muteAges = s.bus.muteAges ∧ (receiverOn s).bus.startEpoch = s.bus.startEpoch ∧
    (receiverOn s).bus.bitTime = s.bus.bitTime := by
  (repeat' apply And.intro) <;>
  first | (simp [receiverOn]; done) | rfl | (simp only [receiverOn, whenever]; (repeat' split) <;> simp; done) | (unfold receiverOn; (repeat' split) <;> simp [whenever] <;> (repeat' split) <;> simp; done)

@[simp] theorem receiverOff_frame (s : State) :
    (receiverOff s).now = s.now ∧ (receiverOff s).pending = s.pending ∧ (receiverOff s).src = s.src ∧
    (receiverOff s).lq = s.lq ∧ (receiverOff s).mem = s.mem ∧ (receiverOff s).scan = s.scan ∧
    (receiverOff s).grp = s.grp ∧ (receiverOff s).ctl = s.ctl ∧ (receiverOff s).ovl = s.ovl ∧
    (receiverOff s).lag = s.lag ∧ (receiverOff s).ldr = s.ldr ∧ (receiverOff s).cfg = s.cfg ∧
    (receiverOff s).port = s.port ∧ (receiverOff s).judged = s.judged ∧ (receiverOff s).bus.reg = s.bus.reg ∧
    (receiverOff s).bus.mute = s.bus.mute ∧ (receiverOff s).bus.muteAges = s.bus.muteAges ∧
    (receiverOff s).bus.startEpoch = s.bus.startEpoch ∧ (receiverOff s).bus.bitTime = s.bus.bitTime := by
  (repeat' apply And.intro) <;>
  first | (simp [receiverOff]; done) | rfl | (simp only [receiverOff, whenever]; (repeat' split) <;> simp; done) | (unfold receiverOff; (repeat' split) <;> simp [whenever] <;> (repeat' split) <;> simp; done)

@[simp] theorem rejoinWire_frame (s : State) :
    (rejoinWire s).now = s.now ∧ (rejoinWire s).pending = s.pending ∧ (rejoinWire s).src = s.src ∧
    (rejoinWire s).lq = s.lq ∧ (rejoinWire s).mem = s.mem ∧ (rejoinWire s).scan = s.scan ∧
    (rejoinWire s).grp = s.grp ∧ (rejoinWire s).ctl = s.ctl ∧ (rejoinWire s).ovl = s.ovl ∧
    (rejoinWire s).lag = s.lag ∧ (rejoinWire s).ldr = s.ldr ∧ (rejoinWire s).cfg = s.cfg ∧
    (rejoinWire s).port = s.port ∧ (rejoinWire s).judged = s.judged ∧ (rejoinWire s).bus.reg = s.bus.reg ∧
    (rejoinWire s).bus.holdoff = s.bus.holdoff ∧ (rejoinWire s).bus.mute = s.bus.mute ∧
    (rejoinWire s).bus.muteAges = s.bus.muteAges ∧ (rejoinWire s).bus.startEpoch = s.bus.startEpoch ∧
    (rejoinWire s).bus.bitTime = s.bus.bitTime := by
  (repeat' apply And.intro) <;>
  first | (simp [rejoinWire]; done) | rfl | (simp only [rejoinWire, whenever]; (repeat' split) <;> simp; done) | (unfold rejoinWire; (repeat' split) <;> simp [whenever] <;> (repeat' split) <;> simp; done)

@[simp] theorem enterRun_frame (s : State) :
    (enterRun s).now = s.now ∧ (enterRun s).pending = s.pending ∧ (enterRun s).lq = s.lq ∧
    (enterRun s).mem = s.mem ∧ (enterRun s).scan = s.scan ∧ (enterRun s).ovl = s.ovl ∧ (enterRun s).ldr = s.ldr ∧
    (enterRun s).cfg = s.cfg ∧ (enterRun s).judged = s.judged ∧ (enterRun s).src.fails = s.src.fails ∧
    (enterRun s).src.frameOpen = s.src.frameOpen ∧ (enterRun s).src.serial = s.src.serial ∧
    (enterRun s).src.raster = s.src.raster ∧ (enterRun s).src.fill = s.src.fill ∧
    (enterRun s).src.running = s.src.running ∧ (enterRun s).bus.holdoff = s.bus.holdoff ∧
    (enterRun s).bus.mute = s.bus.mute ∧ (enterRun s).bus.muteAges = s.bus.muteAges ∧
    (enterRun s).bus.startEpoch = s.bus.startEpoch ∧ (enterRun s).bus.bitTime = s.bus.bitTime ∧
    (enterRun s).grp.refusal = s.grp.refusal ∧ (enterRun s).grp.dupLatch = s.grp.dupLatch ∧
    (enterRun s).grp.epoch = s.grp.epoch ∧ (enterRun s).ctl.held = s.ctl.held ∧
    (enterRun s).ctl.station = s.ctl.station ∧ (enterRun s).ctl.warm = s.ctl.warm ∧
    (enterRun s).port.masks = s.port.masks ∧ (enterRun s).port.arg = s.port.arg := by
  (repeat' apply And.intro) <;>
  first | (simp [enterRun]; done) | rfl | (simp only [enterRun, whenever]; (repeat' split) <;> simp; done) | (unfold enterRun; (repeat' split) <;> simp [whenever] <;> (repeat' split) <;> simp; done)

@[simp] theorem enterStandby_frame (s : State) :
    (enterStandby s).now = s.now ∧ (enterStandby s).pending = s.pending ∧ (enterStandby s).mem = s.mem ∧
    (enterStandby s).ovl = s.ovl ∧ (enterStandby s).ldr = s.ldr ∧ (enterStandby s).cfg = s.cfg ∧
    (enterStandby s).scan.shown = s.scan.shown ∧ (enterStandby s).scan.margin = s.scan.margin ∧
    (enterStandby s).scan.cleanRun = s.scan.cleanRun ∧ (enterStandby s).scan.ownLead = s.scan.ownLead ∧
    (enterStandby s).scan.holdInUse = s.scan.holdInUse ∧ (enterStandby s).bus.engine = s.bus.engine ∧
    (enterStandby s).bus.idleCount = s.bus.idleCount ∧ (enterStandby s).bus.reg = s.bus.reg ∧
    (enterStandby s).bus.holdoff = s.bus.holdoff ∧ (enterStandby s).bus.mute = s.bus.mute ∧
    (enterStandby s).bus.muteAges = s.bus.muteAges ∧ (enterStandby s).bus.recessiveFrom = s.bus.recessiveFrom ∧
    (enterStandby s).bus.runFrom = s.bus.runFrom ∧ (enterStandby s).bus.startEpoch = s.bus.startEpoch ∧
    (enterStandby s).bus.bitTime = s.bus.bitTime ∧ (enterStandby s).grp.membership = s.grp.membership ∧
    (enterStandby s).grp.peers = s.grp.peers ∧ (enterStandby s).grp.refusal = s.grp.refusal ∧
    (enterStandby s).grp.dupLatch = s.grp.dupLatch ∧ (enterStandby s).grp.epoch = s.grp.epoch ∧
    (enterStandby s).ctl.held = s.ctl.held ∧ (enterStandby s).ctl.station = s.ctl.station ∧
    (enterStandby s).ctl.departure = s.ctl.departure ∧ (enterStandby s).ctl.warm = s.ctl.warm ∧
    (enterStandby s).lag.actions = s.lag.actions ∧ (enterStandby s).port.masks = s.port.masks ∧
    (enterStandby s).port.arg = s.port.arg ∧ (enterStandby s).judged.standby = s.judged.standby := by
  (repeat' apply And.intro) <;>
  first | (simp [enterStandby]; done) | rfl | (simp only [enterStandby, whenever]; (repeat' split) <;> simp; done) | (unfold enterStandby; (repeat' split) <;> simp [whenever] <;> (repeat' split) <;> simp; done)

@[simp] theorem goDark_frame (s : State) :
    (goDark s).now = s.now ∧ (goDark s).pending = s.pending ∧ (goDark s).ldr = s.ldr ∧ (goDark s).cfg = s.cfg ∧
    (goDark s).scan.shown = s.scan.shown ∧ (goDark s).scan.margin = s.scan.margin ∧
    (goDark s).scan.cleanRun = s.scan.cleanRun ∧ (goDark s).scan.ownLead = s.scan.ownLead ∧
    (goDark s).scan.holdInUse = s.scan.holdInUse ∧ (goDark s).bus.engine = s.bus.engine ∧
    (goDark s).bus.idleCount = s.bus.idleCount ∧ (goDark s).bus.holdoff = s.bus.holdoff ∧
    (goDark s).bus.mute = s.bus.mute ∧ (goDark s).bus.muteAges = s.bus.muteAges ∧
    (goDark s).bus.recessiveFrom = s.bus.recessiveFrom ∧ (goDark s).bus.runFrom = s.bus.runFrom ∧
    (goDark s).bus.startEpoch = s.bus.startEpoch ∧ (goDark s).bus.bitTime = s.bus.bitTime ∧
    (goDark s).grp.refusal = s.grp.refusal ∧ (goDark s).grp.dupLatch = s.grp.dupLatch ∧
    (goDark s).grp.epoch = s.grp.epoch ∧ (goDark s).ctl.st = s.ctl.st ∧ (goDark s).ctl.held = s.ctl.held ∧
    (goDark s).ctl.station = s.ctl.station ∧ (goDark s).ctl.warm = s.ctl.warm ∧
    (goDark s).port.masks = s.port.masks ∧ (goDark s).port.arg = s.port.arg ∧
    (goDark s).judged.standby = s.judged.standby := by
  (repeat' apply And.intro) <;>
  first | (simp [goDark]; done) | rfl | (simp only [goDark, whenever]; (repeat' split) <;> simp; done) | (unfold goDark; (repeat' split) <;> simp [whenever] <;> (repeat' split) <;> simp; done)

@[simp] theorem releaseRegister_frame (s : State) :
    (releaseRegister s).now = s.now ∧ (releaseRegister s).pending = s.pending ∧ (releaseRegister s).src = s.src ∧
    (releaseRegister s).lq = s.lq ∧ (releaseRegister s).mem = s.mem ∧ (releaseRegister s).scan = s.scan ∧
    (releaseRegister s).grp = s.grp ∧ (releaseRegister s).ctl = s.ctl ∧ (releaseRegister s).ovl = s.ovl ∧
    (releaseRegister s).ldr = s.ldr ∧ (releaseRegister s).cfg = s.cfg ∧ (releaseRegister s).port = s.port ∧
    (releaseRegister s).judged = s.judged ∧ (releaseRegister s).bus.engine = s.bus.engine ∧
    (releaseRegister s).bus.idleCount = s.bus.idleCount ∧ (releaseRegister s).bus.holdoff = s.bus.holdoff ∧
    (releaseRegister s).bus.mute = s.bus.mute ∧ (releaseRegister s).bus.muteAges = s.bus.muteAges ∧
    (releaseRegister s).bus.recessiveFrom = s.bus.recessiveFrom ∧ (releaseRegister s).bus.runFrom = s.bus.runFrom ∧
    (releaseRegister s).bus.startEpoch = s.bus.startEpoch ∧ (releaseRegister s).bus.bitTime = s.bus.bitTime ∧
    (releaseRegister s).lag.actions = s.lag.actions ∧ (releaseRegister s).lag.frozen = s.lag.frozen := by
  (repeat' apply And.intro) <;>
  first | (simp [releaseRegister]; done) | rfl | (simp only [releaseRegister, whenever]; (repeat' split) <;> simp; done) | (unfold releaseRegister; (repeat' split) <;> simp [whenever] <;> (repeat' split) <;> simp; done)

@[simp] theorem enterSleep_frame (c : SleepCause) (s : State) :
    (enterSleep c s).now = s.now ∧ (enterSleep c s).pending = s.pending ∧ (enterSleep c s).ldr = s.ldr ∧
    (enterSleep c s).cfg = s.cfg ∧ (enterSleep c s).scan.shown = s.scan.shown ∧
    (enterSleep c s).scan.margin = s.scan.margin ∧ (enterSleep c s).scan.cleanRun = s.scan.cleanRun ∧
    (enterSleep c s).scan.ownLead = s.scan.ownLead ∧ (enterSleep c s).scan.holdInUse = s.scan.holdInUse ∧
    (enterSleep c s).bus.mute = s.bus.mute ∧ (enterSleep c s).bus.muteAges = s.bus.muteAges ∧
    (enterSleep c s).bus.startEpoch = s.bus.startEpoch ∧ (enterSleep c s).bus.bitTime = s.bus.bitTime ∧
    (enterSleep c s).grp.refusal = s.grp.refusal ∧ (enterSleep c s).grp.dupLatch = s.grp.dupLatch ∧
    (enterSleep c s).grp.epoch = s.grp.epoch ∧ (enterSleep c s).ctl.held = s.ctl.held ∧
    (enterSleep c s).ctl.station = s.ctl.station ∧ (enterSleep c s).ctl.warm = s.ctl.warm ∧
    (enterSleep c s).port.masks = s.port.masks ∧ (enterSleep c s).port.arg = s.port.arg ∧
    (enterSleep c s).judged.standby = s.judged.standby := by
  (repeat' apply And.intro) <;>
  first | (simp [enterSleep]; done) | rfl | (simp only [enterSleep, whenever]; (repeat' split) <;> simp; done) | (unfold enterSleep; (repeat' split) <;> simp [whenever] <;> (repeat' split) <;> simp; done)

@[simp] theorem enterOverheat_frame (s : State) :
    (enterOverheat s).now = s.now ∧ (enterOverheat s).pending = s.pending ∧ (enterOverheat s).ldr = s.ldr ∧
    (enterOverheat s).cfg = s.cfg ∧ (enterOverheat s).scan.shown = s.scan.shown ∧
    (enterOverheat s).scan.margin = s.scan.margin ∧ (enterOverheat s).scan.cleanRun = s.scan.cleanRun ∧
    (enterOverheat s).scan.ownLead = s.scan.ownLead ∧ (enterOverheat s).scan.holdInUse = s.scan.holdInUse ∧
    (enterOverheat s).bus.mute = s.bus.mute ∧ (enterOverheat s).bus.muteAges = s.bus.muteAges ∧
    (enterOverheat s).bus.startEpoch = s.bus.startEpoch ∧ (enterOverheat s).bus.bitTime = s.bus.bitTime ∧
    (enterOverheat s).grp.refusal = s.grp.refusal ∧ (enterOverheat s).grp.dupLatch = s.grp.dupLatch ∧
    (enterOverheat s).grp.epoch = s.grp.epoch ∧ (enterOverheat s).ctl.held = s.ctl.held ∧
    (enterOverheat s).ctl.station = s.ctl.station ∧ (enterOverheat s).ctl.warm = s.ctl.warm ∧
    (enterOverheat s).port.masks = s.port.masks ∧ (enterOverheat s).port.arg = s.port.arg ∧
    (enterOverheat s).judged.standby = s.judged.standby := by
  (repeat' apply And.intro) <;>
  first | (simp [enterOverheat]; done) | rfl | (simp only [enterOverheat, whenever]; (repeat' split) <;> simp; done) | (unfold enterOverheat; (repeat' split) <;> simp [whenever] <;> (repeat' split) <;> simp; done)

@[simp] theorem recordWake_frame (c : WakeCause) (s : State) :
    (recordWake c s).now = s.now ∧ (recordWake c s).pending = s.pending ∧ (recordWake c s).src = s.src ∧
    (recordWake c s).lq = s.lq ∧ (recordWake c s).mem = s.mem ∧ (recordWake c s).scan = s.scan ∧
    (recordWake c s).bus = s.bus ∧ (recordWake c s).grp = s.grp ∧ (recordWake c s).ovl = s.ovl ∧
    (recordWake c s).lag = s.lag ∧ (recordWake c s).ldr = s.ldr ∧ (recordWake c s).cfg = s.cfg ∧
    (recordWake c s).judged = s.judged ∧ (recordWake c s).ctl.st = s.ctl.st ∧
    (recordWake c s).ctl.held = s.ctl.held ∧ (recordWake c s).ctl.station = s.ctl.station ∧
    (recordWake c s).ctl.departure = s.ctl.departure ∧ (recordWake c s).ctl.sleepFails = s.ctl.sleepFails ∧
    (recordWake c s).ctl.warm = s.ctl.warm ∧ (recordWake c s).port.masks = s.port.masks ∧
    (recordWake c s).port.arg = s.port.arg := by
  (repeat' apply And.intro) <;>
  first | (simp [recordWake]; done) | rfl | (simp only [recordWake, whenever]; (repeat' split) <;> simp; done) | (unfold recordWake; (repeat' split) <;> simp [whenever] <;> (repeat' split) <;> simp; done)

@[simp] theorem wakeFromStandby_frame (c : WakeCause) (s : State) :
    (wakeFromStandby c s).now = s.now ∧ (wakeFromStandby c s).pending = s.pending ∧
    (wakeFromStandby c s).lq = s.lq ∧ (wakeFromStandby c s).mem = s.mem ∧ (wakeFromStandby c s).scan = s.scan ∧
    (wakeFromStandby c s).ovl = s.ovl ∧ (wakeFromStandby c s).ldr = s.ldr ∧ (wakeFromStandby c s).cfg = s.cfg ∧
    (wakeFromStandby c s).judged = s.judged ∧ (wakeFromStandby c s).src.fails = s.src.fails ∧
    (wakeFromStandby c s).src.frameOpen = s.src.frameOpen ∧ (wakeFromStandby c s).src.serial = s.src.serial ∧
    (wakeFromStandby c s).src.raster = s.src.raster ∧ (wakeFromStandby c s).src.fill = s.src.fill ∧
    (wakeFromStandby c s).src.running = s.src.running ∧ (wakeFromStandby c s).bus.engine = s.bus.engine ∧
    (wakeFromStandby c s).bus.idleCount = s.bus.idleCount ∧ (wakeFromStandby c s).bus.reg = s.bus.reg ∧
    (wakeFromStandby c s).bus.holdoff = s.bus.holdoff ∧ (wakeFromStandby c s).bus.mute = s.bus.mute ∧
    (wakeFromStandby c s).bus.muteAges = s.bus.muteAges ∧
    (wakeFromStandby c s).bus.recessiveFrom = s.bus.recessiveFrom ∧
    (wakeFromStandby c s).bus.runFrom = s.bus.runFrom ∧ (wakeFromStandby c s).bus.startEpoch = s.bus.startEpoch ∧
    (wakeFromStandby c s).bus.bitTime = s.bus.bitTime ∧ (wakeFromStandby c s).grp.membership = s.grp.membership ∧
    (wakeFromStandby c s).grp.peers = s.grp.peers ∧ (wakeFromStandby c s).grp.refusal = s.grp.refusal ∧
    (wakeFromStandby c s).grp.dupLatch = s.grp.dupLatch ∧ (wakeFromStandby c s).grp.epoch = s.grp.epoch ∧
    (wakeFromStandby c s).ctl.held = s.ctl.held ∧ (wakeFromStandby c s).ctl.station = s.ctl.station ∧
    (wakeFromStandby c s).ctl.departure = s.ctl.departure ∧ (wakeFromStandby c s).ctl.warm = s.ctl.warm ∧
    (wakeFromStandby c s).lag.actions = s.lag.actions ∧ (wakeFromStandby c s).port.masks = s.port.masks ∧
    (wakeFromStandby c s).port.arg = s.port.arg := by
  (repeat' apply And.intro) <;>
  first | (simp [wakeFromStandby]; done) | rfl | (simp only [wakeFromStandby, whenever]; (repeat' split) <;> simp; done) | (unfold wakeFromStandby; (repeat' split) <;> simp [whenever] <;> (repeat' split) <;> simp; done)

@[simp] theorem wakeFromSleep_frame (c : WakeCause) (s : State) :
    (wakeFromSleep c s).now = s.now ∧ (wakeFromSleep c s).pending = s.pending ∧ (wakeFromSleep c s).ldr = s.ldr ∧
    (wakeFromSleep c s).cfg = s.cfg ∧ (wakeFromSleep c s).scan.shown = s.scan.shown ∧
    (wakeFromSleep c s).scan.margin = s.scan.margin ∧ (wakeFromSleep c s).scan.cleanRun = s.scan.cleanRun ∧
    (wakeFromSleep c s).scan.ownLead = s.scan.ownLead ∧ (wakeFromSleep c s).scan.holdInUse = s.scan.holdInUse ∧
    (wakeFromSleep c s).bus.mute = s.bus.mute ∧ (wakeFromSleep c s).bus.muteAges = s.bus.muteAges ∧
    (wakeFromSleep c s).bus.startEpoch = s.bus.startEpoch ∧ (wakeFromSleep c s).bus.bitTime = s.bus.bitTime ∧
    (wakeFromSleep c s).grp.refusal = s.grp.refusal ∧ (wakeFromSleep c s).grp.dupLatch = s.grp.dupLatch ∧
    (wakeFromSleep c s).grp.epoch = s.grp.epoch ∧ (wakeFromSleep c s).ctl.held = s.ctl.held ∧
    (wakeFromSleep c s).ctl.station = s.ctl.station ∧ (wakeFromSleep c s).ctl.warm = s.ctl.warm ∧
    (wakeFromSleep c s).port.masks = s.port.masks ∧ (wakeFromSleep c s).port.arg = s.port.arg ∧
    (wakeFromSleep c s).judged.standby = s.judged.standby := by
  (repeat' apply And.intro) <;>
  first | (simp [wakeFromSleep]; done) | rfl | (simp only [wakeFromSleep, whenever]; (repeat' split) <;> simp; done) | (unfold wakeFromSleep; (repeat' split) <;> simp [whenever] <;> (repeat' split) <;> simp; done)

@[simp] theorem queueWake_frame (m : BitVec 16) (s : State) :
    (queueWake m s).now = s.now ∧ (queueWake m s).pending = s.pending ∧ (queueWake m s).src = s.src ∧
    (queueWake m s).lq = s.lq ∧ (queueWake m s).mem = s.mem ∧ (queueWake m s).scan = s.scan ∧
    (queueWake m s).grp = s.grp ∧ (queueWake m s).ctl = s.ctl ∧ (queueWake m s).ovl = s.ovl ∧
    (queueWake m s).lag = s.lag ∧ (queueWake m s).ldr = s.ldr ∧ (queueWake m s).cfg = s.cfg ∧
    (queueWake m s).port = s.port ∧ (queueWake m s).judged = s.judged ∧ (queueWake m s).bus.engine = s.bus.engine ∧
    (queueWake m s).bus.idleCount = s.bus.idleCount ∧ (queueWake m s).bus.reg = s.bus.reg ∧
    (queueWake m s).bus.holdoff = s.bus.holdoff ∧ (queueWake m s).bus.mute = s.bus.mute ∧
    (queueWake m s).bus.muteAges = s.bus.muteAges ∧ (queueWake m s).bus.recessiveFrom = s.bus.recessiveFrom ∧
    (queueWake m s).bus.runFrom = s.bus.runFrom ∧ (queueWake m s).bus.startEpoch = s.bus.startEpoch ∧
    (queueWake m s).bus.bitTime = s.bus.bitTime := by
  (repeat' apply And.intro) <;>
  first | (simp [queueWake]; done) | rfl | (simp only [queueWake, whenever]; (repeat' split) <;> simp; done) | (unfold queueWake; (repeat' split) <;> simp [whenever] <;> (repeat' split) <;> simp; done)

@[simp] theorem sourceWakes_frame (s : State) :
    (sourceWakes s).now = s.now ∧ (sourceWakes s).pending = s.pending ∧ (sourceWakes s).lq = s.lq ∧
    (sourceWakes s).mem = s.mem ∧ (sourceWakes s).scan = s.scan ∧ (sourceWakes s).ovl = s.ovl ∧
    (sourceWakes s).ldr = s.ldr ∧ (sourceWakes s).cfg = s.cfg ∧ (sourceWakes s).judged = s.judged ∧
    (sourceWakes s).src.fails = s.src.fails ∧ (sourceWakes s).src.frameOpen = s.src.frameOpen ∧
    (sourceWakes s).src.serial = s.src.serial ∧ (sourceWakes s).src.raster = s.src.raster ∧
    (sourceWakes s).src.fill = s.src.fill ∧ (sourceWakes s).src.running = s.src.running ∧
    (sourceWakes s).bus.engine = s.bus.engine ∧ (sourceWakes s).bus.idleCount = s.bus.idleCount ∧
    (sourceWakes s).bus.reg = s.bus.reg ∧ (sourceWakes s).bus.holdoff = s.bus.holdoff ∧
    (sourceWakes s).bus.mute = s.bus.mute ∧ (sourceWakes s).bus.muteAges = s.bus.muteAges ∧
    (sourceWakes s).bus.recessiveFrom = s.bus.recessiveFrom ∧ (sourceWakes s).bus.runFrom = s.bus.runFrom ∧
    (sourceWakes s).bus.startEpoch = s.bus.startEpoch ∧ (sourceWakes s).bus.bitTime = s.bus.bitTime ∧
    (sourceWakes s).grp.membership = s.grp.membership ∧ (sourceWakes s).grp.peers = s.grp.peers ∧
    (sourceWakes s).grp.refusal = s.grp.refusal ∧ (sourceWakes s).grp.dupLatch = s.grp.dupLatch ∧
    (sourceWakes s).grp.epoch = s.grp.epoch ∧ (sourceWakes s).ctl.held = s.ctl.held ∧
    (sourceWakes s).ctl.station = s.ctl.station ∧ (sourceWakes s).ctl.departure = s.ctl.departure ∧
    (sourceWakes s).ctl.warm = s.ctl.warm ∧ (sourceWakes s).lag.actions = s.lag.actions ∧
    (sourceWakes s).port.masks = s.port.masks ∧ (sourceWakes s).port.arg = s.port.arg := by
  (repeat' apply And.intro) <;>
  first | (simp [sourceWakes]; done) | rfl | (simp only [sourceWakes, whenever]; (repeat' split) <;> simp; done) | (unfold sourceWakes; (repeat' split) <;> simp [whenever] <;> (repeat' split) <;> simp; done)

@[simp] theorem backToDetector_frame (s : State) :
    (backToDetector s).now = s.now ∧ (backToDetector s).pending = s.pending ∧ (backToDetector s).src = s.src ∧
    (backToDetector s).lq = s.lq ∧ (backToDetector s).mem = s.mem ∧ (backToDetector s).scan = s.scan ∧
    (backToDetector s).grp = s.grp ∧ (backToDetector s).ovl = s.ovl ∧ (backToDetector s).lag = s.lag ∧
    (backToDetector s).ldr = s.ldr ∧ (backToDetector s).cfg = s.cfg ∧ (backToDetector s).port = s.port ∧
    (backToDetector s).judged = s.judged ∧ (backToDetector s).bus.reg = s.bus.reg ∧
    (backToDetector s).bus.mute = s.bus.mute ∧ (backToDetector s).bus.muteAges = s.bus.muteAges ∧
    (backToDetector s).bus.startEpoch = s.bus.startEpoch ∧ (backToDetector s).bus.bitTime = s.bus.bitTime ∧
    (backToDetector s).ctl.st = s.ctl.st ∧ (backToDetector s).ctl.held = s.ctl.held ∧
    (backToDetector s).ctl.station = s.ctl.station ∧ (backToDetector s).ctl.departure = s.ctl.departure ∧
    (backToDetector s).ctl.sleepFails = s.ctl.sleepFails ∧ (backToDetector s).ctl.warm = s.ctl.warm := by
  (repeat' apply And.intro) <;>
  first | (simp [backToDetector]; done) | rfl | (simp only [backToDetector, whenever]; (repeat' split) <;> simp; done) | (unfold backToDetector; (repeat' split) <;> simp [whenever] <;> (repeat' split) <;> simp; done)

@[simp] theorem windowFailure_frame (s : State) :
    (windowFailure s).now = s.now ∧ (windowFailure s).pending = s.pending ∧ (windowFailure s).ldr = s.ldr ∧
    (windowFailure s).cfg = s.cfg ∧ (windowFailure s).scan.shown = s.scan.shown ∧
    (windowFailure s).scan.margin = s.scan.margin ∧ (windowFailure s).scan.cleanRun = s.scan.cleanRun ∧
    (windowFailure s).scan.ownLead = s.scan.ownLead ∧ (windowFailure s).scan.holdInUse = s.scan.holdInUse ∧
    (windowFailure s).bus.mute = s.bus.mute ∧ (windowFailure s).bus.muteAges = s.bus.muteAges ∧
    (windowFailure s).bus.startEpoch = s.bus.startEpoch ∧ (windowFailure s).bus.bitTime = s.bus.bitTime ∧
    (windowFailure s).grp.refusal = s.grp.refusal ∧ (windowFailure s).grp.dupLatch = s.grp.dupLatch ∧
    (windowFailure s).grp.epoch = s.grp.epoch ∧ (windowFailure s).ctl.held = s.ctl.held ∧
    (windowFailure s).ctl.station = s.ctl.station ∧ (windowFailure s).ctl.warm = s.ctl.warm ∧
    (windowFailure s).port.masks = s.port.masks ∧ (windowFailure s).port.arg = s.port.arg ∧
    (windowFailure s).judged.standby = s.judged.standby := by
  (repeat' apply And.intro) <;>
  first | (simp [windowFailure]; done) | rfl | (simp only [windowFailure, whenever]; (repeat' split) <;> simp; done) | (unfold windowFailure; (repeat' split) <;> simp [whenever] <;> (repeat' split) <;> simp; done)

@[simp] theorem windowAccepted_frame (a : Bool) (s : State) :
    (windowAccepted a s).now = s.now ∧ (windowAccepted a s).pending = s.pending ∧ (windowAccepted a s).ldr = s.ldr ∧
    (windowAccepted a s).cfg = s.cfg ∧ (windowAccepted a s).scan.shown = s.scan.shown ∧
    (windowAccepted a s).scan.margin = s.scan.margin ∧ (windowAccepted a s).scan.cleanRun = s.scan.cleanRun ∧
    (windowAccepted a s).scan.ownLead = s.scan.ownLead ∧ (windowAccepted a s).scan.holdInUse = s.scan.holdInUse ∧
    (windowAccepted a s).bus.mute = s.bus.mute ∧ (windowAccepted a s).bus.muteAges = s.bus.muteAges ∧
    (windowAccepted a s).bus.startEpoch = s.bus.startEpoch ∧ (windowAccepted a s).bus.bitTime = s.bus.bitTime ∧
    (windowAccepted a s).grp.refusal = s.grp.refusal ∧ (windowAccepted a s).grp.dupLatch = s.grp.dupLatch ∧
    (windowAccepted a s).grp.epoch = s.grp.epoch ∧ (windowAccepted a s).ctl.held = s.ctl.held ∧
    (windowAccepted a s).ctl.station = s.ctl.station ∧ (windowAccepted a s).ctl.warm = s.ctl.warm ∧
    (windowAccepted a s).port.masks = s.port.masks ∧ (windowAccepted a s).port.arg = s.port.arg ∧
    (windowAccepted a s).judged.standby = s.judged.standby := by
  (repeat' apply And.intro) <;>
  first | (simp [windowAccepted]; done) | rfl | (simp only [windowAccepted, whenever]; (repeat' split) <;> simp; done) | (unfold windowAccepted; (repeat' split) <;> simp [whenever] <;> (repeat' split) <;> simp; done)

@[simp] theorem clearForcedListen_frame (s : State) :
    (clearForcedListen s).now = s.now ∧ (clearForcedListen s).pending = s.pending ∧
    (clearForcedListen s).src = s.src ∧ (clearForcedListen s).lq = s.lq ∧ (clearForcedListen s).mem = s.mem ∧
    (clearForcedListen s).scan = s.scan ∧ (clearForcedListen s).grp = s.grp ∧ (clearForcedListen s).ovl = s.ovl ∧
    (clearForcedListen s).lag = s.lag ∧ (clearForcedListen s).ldr = s.ldr ∧ (clearForcedListen s).cfg = s.cfg ∧
    (clearForcedListen s).port = s.port ∧ (clearForcedListen s).judged = s.judged ∧
    (clearForcedListen s).bus.reg = s.bus.reg ∧ (clearForcedListen s).bus.mute = s.bus.mute ∧
    (clearForcedListen s).bus.muteAges = s.bus.muteAges ∧ (clearForcedListen s).bus.startEpoch = s.bus.startEpoch ∧
    (clearForcedListen s).bus.bitTime = s.bus.bitTime ∧ (clearForcedListen s).ctl.st = s.ctl.st ∧
    (clearForcedListen s).ctl.held = s.ctl.held ∧ (clearForcedListen s).ctl.station = s.ctl.station ∧
    (clearForcedListen s).ctl.departure = s.ctl.departure ∧
    (clearForcedListen s).ctl.sleepFails = s.ctl.sleepFails ∧ (clearForcedListen s).ctl.warm = s.ctl.warm := by
  (repeat' apply And.intro) <;>
  first | (simp [clearForcedListen]; done) | rfl | (simp only [clearForcedListen, whenever]; (repeat' split) <;> simp; done) | (unfold clearForcedListen; (repeat' split) <;> simp [whenever] <;> (repeat' split) <;> simp; done)

@[simp] theorem queueLeave_frame (r : Byte) (s : State) :
    (queueLeave r s).now = s.now ∧ (queueLeave r s).pending = s.pending ∧ (queueLeave r s).src = s.src ∧
    (queueLeave r s).lq = s.lq ∧ (queueLeave r s).mem = s.mem ∧ (queueLeave r s).scan = s.scan ∧
    (queueLeave r s).grp = s.grp ∧ (queueLeave r s).ctl = s.ctl ∧ (queueLeave r s).ovl = s.ovl ∧
    (queueLeave r s).lag = s.lag ∧ (queueLeave r s).ldr = s.ldr ∧ (queueLeave r s).cfg = s.cfg ∧
    (queueLeave r s).port = s.port ∧ (queueLeave r s).judged = s.judged ∧
    (queueLeave r s).bus.engine = s.bus.engine ∧ (queueLeave r s).bus.idleCount = s.bus.idleCount ∧
    (queueLeave r s).bus.reg = s.bus.reg ∧ (queueLeave r s).bus.holdoff = s.bus.holdoff ∧
    (queueLeave r s).bus.mute = s.bus.mute ∧ (queueLeave r s).bus.muteAges = s.bus.muteAges ∧
    (queueLeave r s).bus.recessiveFrom = s.bus.recessiveFrom ∧ (queueLeave r s).bus.runFrom = s.bus.runFrom ∧
    (queueLeave r s).bus.startEpoch = s.bus.startEpoch ∧ (queueLeave r s).bus.bitTime = s.bus.bitTime := by
  (repeat' apply And.intro) <;>
  first | (simp [queueLeave]; done) | rfl | (simp only [queueLeave, whenever]; (repeat' split) <;> simp; done) | (unfold queueLeave; (repeat' split) <;> simp [whenever] <;> (repeat' split) <;> simp; done)

@[simp] theorem setDeparture_frame (r : DepReason) (b : Bool) (s : State) :
    (setDeparture r b s).now = s.now ∧ (setDeparture r b s).pending = s.pending ∧ (setDeparture r b s).src = s.src ∧
    (setDeparture r b s).lq = s.lq ∧ (setDeparture r b s).mem = s.mem ∧ (setDeparture r b s).scan = s.scan ∧
    (setDeparture r b s).bus = s.bus ∧ (setDeparture r b s).grp = s.grp ∧ (setDeparture r b s).ovl = s.ovl ∧
    (setDeparture r b s).lag = s.lag ∧ (setDeparture r b s).ldr = s.ldr ∧ (setDeparture r b s).cfg = s.cfg ∧
    (setDeparture r b s).port = s.port ∧ (setDeparture r b s).judged = s.judged ∧
    (setDeparture r b s).ctl.st = s.ctl.st ∧ (setDeparture r b s).ctl.held = s.ctl.held ∧
    (setDeparture r b s).ctl.station = s.ctl.station ∧ (setDeparture r b s).ctl.sleepFails = s.ctl.sleepFails ∧
    (setDeparture r b s).ctl.warm = s.ctl.warm := by
  (repeat' apply And.intro) <;>
  first | (simp [setDeparture]; done) | rfl | (simp only [setDeparture, whenever]; (repeat' split) <;> simp; done) | (unfold setDeparture; (repeat' split) <;> simp [whenever] <;> (repeat' split) <;> simp; done)

@[simp] theorem beginDeparture_frame (r : DepReason) (s : State) :
    (beginDeparture r s).now = s.now ∧ (beginDeparture r s).pending = s.pending ∧ (beginDeparture r s).src = s.src ∧
    (beginDeparture r s).lq = s.lq ∧ (beginDeparture r s).mem = s.mem ∧ (beginDeparture r s).scan = s.scan ∧
    (beginDeparture r s).grp = s.grp ∧ (beginDeparture r s).ovl = s.ovl ∧ (beginDeparture r s).lag = s.lag ∧
    (beginDeparture r s).ldr = s.ldr ∧ (beginDeparture r s).cfg = s.cfg ∧ (beginDeparture r s).port = s.port ∧
    (beginDeparture r s).judged = s.judged ∧ (beginDeparture r s).bus.engine = s.bus.engine ∧
    (beginDeparture r s).bus.idleCount = s.bus.idleCount ∧ (beginDeparture r s).bus.reg = s.bus.reg ∧
    (beginDeparture r s).bus.holdoff = s.bus.holdoff ∧ (beginDeparture r s).bus.mute = s.bus.mute ∧
    (beginDeparture r s).bus.muteAges = s.bus.muteAges ∧
    (beginDeparture r s).bus.recessiveFrom = s.bus.recessiveFrom ∧
    (beginDeparture r s).bus.runFrom = s.bus.runFrom ∧ (beginDeparture r s).bus.startEpoch = s.bus.startEpoch ∧
    (beginDeparture r s).bus.bitTime = s.bus.bitTime ∧ (beginDeparture r s).ctl.st = s.ctl.st ∧
    (beginDeparture r s).ctl.held = s.ctl.held ∧ (beginDeparture r s).ctl.station = s.ctl.station ∧
    (beginDeparture r s).ctl.sleepFails = s.ctl.sleepFails ∧ (beginDeparture r s).ctl.warm = s.ctl.warm := by
  (repeat' apply And.intro) <;>
  first | (simp [beginDeparture]; done) | rfl | (simp only [beginDeparture, whenever]; (repeat' split) <;> simp; done) | (unfold beginDeparture; (repeat' split) <;> simp [whenever] <;> (repeat' split) <;> simp; done)

@[simp] theorem decideSupply_frame (s : State) :
    (decideSupply s).now = s.now ∧ (decideSupply s).pending = s.pending ∧ (decideSupply s).src = s.src ∧
    (decideSupply s).mem = s.mem ∧ (decideSupply s).ovl = s.ovl ∧ (decideSupply s).ldr = s.ldr ∧
    (decideSupply s).cfg = s.cfg ∧ (decideSupply s).judged = s.judged ∧ (decideSupply s).lq.ring = s.lq.ring ∧
    (decideSupply s).lq.outPtr = s.lq.outPtr ∧ (decideSupply s).lq.staging = s.lq.staging ∧
    (decideSupply s).bus.engine = s.bus.engine ∧ (decideSupply s).bus.idleCount = s.bus.idleCount ∧
    (decideSupply s).bus.reg = s.bus.reg ∧ (decideSupply s).bus.holdoff = s.bus.holdoff ∧
    (decideSupply s).bus.mute = s.bus.mute ∧ (decideSupply s).bus.muteAges = s.bus.muteAges ∧
    (decideSupply s).bus.recessiveFrom = s.bus.recessiveFrom ∧ (decideSupply s).bus.runFrom = s.bus.runFrom ∧
    (decideSupply s).bus.startEpoch = s.bus.startEpoch ∧ (decideSupply s).bus.bitTime = s.bus.bitTime ∧
    (decideSupply s).grp.membership = s.grp.membership ∧ (decideSupply s).grp.peers = s.grp.peers ∧
    (decideSupply s).grp.refusal = s.grp.refusal ∧ (decideSupply s).grp.dupLatch = s.grp.dupLatch ∧
    (decideSupply s).grp.epoch = s.grp.epoch ∧ (decideSupply s).ctl.st = s.ctl.st ∧
    (decideSupply s).ctl.held = s.ctl.held ∧ (decideSupply s).ctl.station = s.ctl.station ∧
    (decideSupply s).ctl.sleepFails = s.ctl.sleepFails ∧ (decideSupply s).ctl.warm = s.ctl.warm ∧
    (decideSupply s).lag.actions = s.lag.actions ∧ (decideSupply s).port.masks = s.port.masks ∧
    (decideSupply s).port.arg = s.port.arg := by
  (repeat' apply And.intro) <;>
  first | (simp [decideSupply]; done) | rfl | (simp only [decideSupply, whenever]; (repeat' split) <;> simp; done) | (unfold decideSupply; (repeat' split) <;> simp [whenever] <;> (repeat' split) <;> simp; done)

@[simp] theorem judgeStandby_frame (s : State) :
    (judgeStandby s).now = s.now ∧ (judgeStandby s).pending = s.pending ∧ (judgeStandby s).src = s.src ∧
    (judgeStandby s).lq = s.lq ∧ (judgeStandby s).mem = s.mem ∧ (judgeStandby s).scan = s.scan ∧
    (judgeStandby s).grp = s.grp ∧ (judgeStandby s).ctl = s.ctl ∧ (judgeStandby s).ovl = s.ovl ∧
    (judgeStandby s).ldr = s.ldr ∧ (judgeStandby s).cfg = s.cfg ∧ (judgeStandby s).port = s.port ∧
    (judgeStandby s).bus.engine = s.bus.engine ∧ (judgeStandby s).bus.idleCount = s.bus.idleCount ∧
    (judgeStandby s).bus.holdoff = s.bus.holdoff ∧ (judgeStandby s).bus.mute = s.bus.mute ∧
    (judgeStandby s).bus.muteAges = s.bus.muteAges ∧ (judgeStandby s).bus.recessiveFrom = s.bus.recessiveFrom ∧
    (judgeStandby s).bus.runFrom = s.bus.runFrom ∧ (judgeStandby s).bus.startEpoch = s.bus.startEpoch ∧
    (judgeStandby s).bus.bitTime = s.bus.bitTime ∧ (judgeStandby s).lag.actions = s.lag.actions ∧
    (judgeStandby s).lag.frozen = s.lag.frozen := by
  (repeat' apply And.intro) <;>
  first | (simp [judgeStandby]; done) | rfl | (simp only [judgeStandby, whenever]; (repeat' split) <;> simp; done) | (unfold judgeStandby; (repeat' split) <;> simp [whenever] <;> (repeat' split) <;> simp; done)

@[simp] theorem standbyNotice_frame (s : State) :
    (standbyNotice s).now = s.now ∧ (standbyNotice s).pending = s.pending ∧ (standbyNotice s).mem = s.mem ∧
    (standbyNotice s).ovl = s.ovl ∧ (standbyNotice s).ldr = s.ldr ∧ (standbyNotice s).cfg = s.cfg ∧
    (standbyNotice s).scan.shown = s.scan.shown ∧ (standbyNotice s).scan.margin = s.scan.margin ∧
    (standbyNotice s).scan.cleanRun = s.scan.cleanRun ∧ (standbyNotice s).scan.ownLead = s.scan.ownLead ∧
    (standbyNotice s).scan.holdInUse = s.scan.holdInUse ∧ (standbyNotice s).bus.engine = s.bus.engine ∧
    (standbyNotice s).bus.idleCount = s.bus.idleCount ∧ (standbyNotice s).bus.holdoff = s.bus.holdoff ∧
    (standbyNotice s).bus.mute = s.bus.mute ∧ (standbyNotice s).bus.muteAges = s.bus.muteAges ∧
    (standbyNotice s).bus.recessiveFrom = s.bus.recessiveFrom ∧ (standbyNotice s).bus.runFrom = s.bus.runFrom ∧
    (standbyNotice s).bus.startEpoch = s.bus.startEpoch ∧ (standbyNotice s).bus.bitTime = s.bus.bitTime ∧
    (standbyNotice s).grp.membership = s.grp.membership ∧ (standbyNotice s).grp.peers = s.grp.peers ∧
    (standbyNotice s).grp.refusal = s.grp.refusal ∧ (standbyNotice s).grp.dupLatch = s.grp.dupLatch ∧
    (standbyNotice s).grp.epoch = s.grp.epoch ∧ (standbyNotice s).ctl.held = s.ctl.held ∧
    (standbyNotice s).ctl.station = s.ctl.station ∧ (standbyNotice s).ctl.departure = s.ctl.departure ∧
    (standbyNotice s).ctl.warm = s.ctl.warm ∧ (standbyNotice s).lag.actions = s.lag.actions ∧
    (standbyNotice s).port.masks = s.port.masks ∧ (standbyNotice s).port.arg = s.port.arg ∧
    (standbyNotice s).judged.standby = s.judged.standby := by
  (repeat' apply And.intro) <;>
  first | (simp [standbyNotice]; done) | rfl | (simp only [standbyNotice, whenever]; (repeat' split) <;> simp; done) | (unfold standbyNotice; (repeat' split) <;> simp [whenever] <;> (repeat' split) <;> simp; done)

@[simp] theorem handOver_frame (s : State) :
    (handOver s).now = s.now ∧ (handOver s).pending = s.pending ∧ (handOver s).src = s.src ∧
    (handOver s).lq = s.lq ∧ (handOver s).mem = s.mem ∧ (handOver s).bus = s.bus ∧ (handOver s).ctl = s.ctl ∧
    (handOver s).ovl = s.ovl ∧ (handOver s).lag = s.lag ∧ (handOver s).ldr = s.ldr ∧ (handOver s).port = s.port ∧
    (handOver s).judged = s.judged ∧ (handOver s).scan.st = s.scan.st ∧
    (handOver s).scan.lastStart = s.scan.lastStart ∧ (handOver s).scan.prog = s.scan.prog ∧
    (handOver s).scan.shown = s.scan.shown ∧ (handOver s).scan.waiting = s.scan.waiting ∧
    (handOver s).scan.cleanRun = s.scan.cleanRun ∧ (handOver s).grp.membership = s.grp.membership ∧
    (handOver s).grp.peers = s.grp.peers ∧ (handOver s).grp.refusal = s.grp.refusal ∧
    (handOver s).grp.dupLatch = s.grp.dupLatch ∧ (handOver s).grp.epoch = s.grp.epoch := by
  (repeat' apply And.intro) <;>
  first | (simp [handOver]; done) | rfl | (simp only [handOver, whenever]; (repeat' split) <;> simp; done) | (unfold handOver; (repeat' split) <;> simp [whenever] <;> (repeat' split) <;> simp; done)

@[simp] theorem fallBack_frame (s : State) :
    (fallBack s).now = s.now ∧ (fallBack s).pending = s.pending ∧ (fallBack s).src = s.src ∧
    (fallBack s).lq = s.lq ∧ (fallBack s).mem = s.mem ∧ (fallBack s).bus = s.bus ∧ (fallBack s).ctl = s.ctl ∧
    (fallBack s).ovl = s.ovl ∧ (fallBack s).lag = s.lag ∧ (fallBack s).ldr = s.ldr ∧
    (fallBack s).judged = s.judged ∧ (fallBack s).scan.st = s.scan.st ∧
    (fallBack s).scan.lastStart = s.scan.lastStart ∧ (fallBack s).scan.prog = s.scan.prog ∧
    (fallBack s).scan.shown = s.scan.shown ∧ (fallBack s).scan.waiting = s.scan.waiting ∧
    (fallBack s).scan.margin = s.scan.margin ∧ (fallBack s).scan.cleanRun = s.scan.cleanRun ∧
    (fallBack s).scan.ownLead = s.scan.ownLead ∧ (fallBack s).scan.holdInUse = s.scan.holdInUse ∧
    (fallBack s).grp.membership = s.grp.membership ∧ (fallBack s).grp.peers = s.grp.peers ∧
    (fallBack s).grp.refusal = s.grp.refusal ∧ (fallBack s).grp.dupLatch = s.grp.dupLatch ∧
    (fallBack s).grp.epoch = s.grp.epoch ∧ (fallBack s).port.masks = s.port.masks ∧
    (fallBack s).port.arg = s.port.arg := by
  (repeat' apply And.intro) <;>
  first | (simp [fallBack]; done) | rfl | (simp only [fallBack, whenever]; (repeat' split) <;> simp; done) | (unfold fallBack; (repeat' split) <;> simp [whenever] <;> (repeat' split) <;> simp; done)

@[simp] theorem finishBoot_frame (s : State) :
    (finishBoot s).now = s.now ∧ (finishBoot s).pending = s.pending ∧ (finishBoot s).lq = s.lq ∧
    (finishBoot s).mem = s.mem ∧ (finishBoot s).ldr = s.ldr ∧ (finishBoot s).judged = s.judged ∧
    (finishBoot s).src.fails = s.src.fails ∧ (finishBoot s).src.frameOpen = s.src.frameOpen ∧
    (finishBoot s).src.serial = s.src.serial ∧ (finishBoot s).src.raster = s.src.raster ∧
    (finishBoot s).src.fill = s.src.fill ∧ (finishBoot s).src.running = s.src.running ∧
    (finishBoot s).scan.st = s.scan.st ∧ (finishBoot s).scan.lastStart = s.scan.lastStart ∧
    (finishBoot s).scan.prog = s.scan.prog ∧ (finishBoot s).scan.shown = s.scan.shown ∧
    (finishBoot s).scan.waiting = s.scan.waiting ∧ (finishBoot s).scan.cleanRun = s.scan.cleanRun ∧
    (finishBoot s).bus.holdoff = s.bus.holdoff ∧ (finishBoot s).bus.mute = s.bus.mute ∧
    (finishBoot s).bus.muteAges = s.bus.muteAges ∧ (finishBoot s).bus.startEpoch = s.bus.startEpoch ∧
    (finishBoot s).grp.refusal = s.grp.refusal ∧ (finishBoot s).grp.dupLatch = s.grp.dupLatch ∧
    (finishBoot s).grp.epoch = s.grp.epoch ∧ (finishBoot s).ctl.held = s.ctl.held ∧
    (finishBoot s).ctl.station = s.ctl.station ∧ (finishBoot s).ctl.warm = s.ctl.warm ∧
    (finishBoot s).port.masks = s.port.masks ∧ (finishBoot s).port.arg = s.port.arg := by
  (repeat' apply And.intro) <;>
  first | (simp [finishBoot]; done) | rfl | (simp only [finishBoot, whenever]; (repeat' split) <;> simp; done) | (unfold finishBoot; (repeat' split) <;> simp [whenever] <;> (repeat' split) <;> simp; done)

@[simp] theorem setWarm_frame (w : Bool) (s : State) :
    (setWarm w s).now = s.now ∧ (setWarm w s).pending = s.pending ∧ (setWarm w s).src = s.src ∧
    (setWarm w s).lq = s.lq ∧ (setWarm w s).mem = s.mem ∧ (setWarm w s).ovl = s.ovl ∧ (setWarm w s).ldr = s.ldr ∧
    (setWarm w s).cfg = s.cfg ∧ (setWarm w s).judged = s.judged ∧ (setWarm w s).scan.st = s.scan.st ∧
    (setWarm w s).scan.lastStart = s.scan.lastStart ∧ (setWarm w s).scan.prog = s.scan.prog ∧
    (setWarm w s).scan.shown = s.scan.shown ∧ (setWarm w s).scan.waiting = s.scan.waiting ∧
    (setWarm w s).scan.margin = s.scan.margin ∧ (setWarm w s).scan.cleanRun = s.scan.cleanRun ∧
    (setWarm w s).scan.ownLead = s.scan.ownLead ∧ (setWarm w s).scan.holdInUse = s.scan.holdInUse ∧
    (setWarm w s).bus.engine = s.bus.engine ∧ (setWarm w s).bus.idleCount = s.bus.idleCount ∧
    (setWarm w s).bus.reg = s.bus.reg ∧ (setWarm w s).bus.holdoff = s.bus.holdoff ∧
    (setWarm w s).bus.mute = s.bus.mute ∧ (setWarm w s).bus.muteAges = s.bus.muteAges ∧
    (setWarm w s).bus.recessiveFrom = s.bus.recessiveFrom ∧ (setWarm w s).bus.runFrom = s.bus.runFrom ∧
    (setWarm w s).bus.startEpoch = s.bus.startEpoch ∧ (setWarm w s).bus.bitTime = s.bus.bitTime ∧
    (setWarm w s).grp.membership = s.grp.membership ∧ (setWarm w s).grp.peers = s.grp.peers ∧
    (setWarm w s).grp.refusal = s.grp.refusal ∧ (setWarm w s).grp.dupLatch = s.grp.dupLatch ∧
    (setWarm w s).grp.epoch = s.grp.epoch ∧ (setWarm w s).ctl.st = s.ctl.st ∧ (setWarm w s).ctl.held = s.ctl.held ∧
    (setWarm w s).ctl.station = s.ctl.station ∧ (setWarm w s).ctl.departure = s.ctl.departure ∧
    (setWarm w s).ctl.sleepFails = s.ctl.sleepFails ∧ (setWarm w s).lag.actions = s.lag.actions ∧
    (setWarm w s).port.masks = s.port.masks ∧ (setWarm w s).port.arg = s.port.arg := by
  (repeat' apply And.intro) <;>
  first | (simp [setWarm]; done) | rfl | (simp only [setWarm, whenever]; (repeat' split) <;> simp; done) | (unfold setWarm; (repeat' split) <;> simp [whenever] <;> (repeat' split) <;> simp; done)

@[simp] theorem takeSense_frame (l : Bool) (s : State) :
    (takeSense l s).now = s.now ∧ (takeSense l s).pending = s.pending ∧ (takeSense l s).src = s.src ∧
    (takeSense l s).lq = s.lq ∧ (takeSense l s).mem = s.mem ∧ (takeSense l s).scan = s.scan ∧
    (takeSense l s).bus = s.bus ∧ (takeSense l s).grp = s.grp ∧ (takeSense l s).ovl = s.ovl ∧
    (takeSense l s).lag = s.lag ∧ (takeSense l s).ldr = s.ldr ∧ (takeSense l s).cfg = s.cfg ∧
    (takeSense l s).port = s.port ∧ (takeSense l s).judged = s.judged ∧ (takeSense l s).ctl.st = s.ctl.st ∧
    (takeSense l s).ctl.held = s.ctl.held ∧ (takeSense l s).ctl.station = s.ctl.station ∧
    (takeSense l s).ctl.departure = s.ctl.departure ∧ (takeSense l s).ctl.sleepFails = s.ctl.sleepFails ∧
    (takeSense l s).ctl.warm = s.ctl.warm := by
  (repeat' apply And.intro) <;>
  first | (simp [takeSense]; done) | rfl | (simp only [takeSense, whenever]; (repeat' split) <;> simp; done) | (unfold takeSense; (repeat' split) <;> simp [whenever] <;> (repeat' split) <;> simp; done)

@[simp] theorem announceChange_frame (b : State) (s : State) :
    (announceChange b s).now = s.now ∧ (announceChange b s).pending = s.pending ∧ (announceChange b s).src = s.src ∧
    (announceChange b s).lq = s.lq ∧ (announceChange b s).mem = s.mem ∧ (announceChange b s).scan = s.scan ∧
    (announceChange b s).grp = s.grp ∧ (announceChange b s).ctl = s.ctl ∧ (announceChange b s).ovl = s.ovl ∧
    (announceChange b s).lag = s.lag ∧ (announceChange b s).ldr = s.ldr ∧ (announceChange b s).cfg = s.cfg ∧
    (announceChange b s).port = s.port ∧ (announceChange b s).judged = s.judged ∧
    (announceChange b s).bus.engine = s.bus.engine ∧ (announceChange b s).bus.idleCount = s.bus.idleCount ∧
    (announceChange b s).bus.reg = s.bus.reg ∧ (announceChange b s).bus.holdoff = s.bus.holdoff ∧
    (announceChange b s).bus.mute = s.bus.mute ∧ (announceChange b s).bus.muteAges = s.bus.muteAges ∧
    (announceChange b s).bus.recessiveFrom = s.bus.recessiveFrom ∧
    (announceChange b s).bus.runFrom = s.bus.runFrom ∧ (announceChange b s).bus.startEpoch = s.bus.startEpoch ∧
    (announceChange b s).bus.bitTime = s.bus.bitTime := by
  (repeat' apply And.intro) <;>
  first | (simp [announceChange]; done) | rfl | (simp only [announceChange, whenever]; (repeat' split) <;> simp; done) | (unfold announceChange; (repeat' split) <;> simp [whenever] <;> (repeat' split) <;> simp; done)

@[simp] theorem judgePeriod_frame (b : State) (s : State) :
    (judgePeriod b s).now = s.now ∧ (judgePeriod b s).pending = s.pending ∧ (judgePeriod b s).src = s.src ∧
    (judgePeriod b s).lq = s.lq ∧ (judgePeriod b s).mem = s.mem ∧ (judgePeriod b s).scan = s.scan ∧
    (judgePeriod b s).bus = s.bus ∧ (judgePeriod b s).grp = s.grp ∧ (judgePeriod b s).ctl = s.ctl ∧
    (judgePeriod b s).ovl = s.ovl ∧ (judgePeriod b s).lag = s.lag ∧ (judgePeriod b s).ldr = s.ldr ∧
    (judgePeriod b s).cfg = s.cfg ∧ (judgePeriod b s).port = s.port ∧
    (judgePeriod b s).judged.standby = s.judged.standby := by
  (repeat' apply And.intro) <;>
  first | (simp [judgePeriod]; done) | rfl | (simp only [judgePeriod, whenever]; (repeat' split) <;> simp; done) | (unfold judgePeriod; (repeat' split) <;> simp [whenever] <;> (repeat' split) <;> simp; done)

@[simp] theorem settle_frame (b : State) (s : State) :
    (settle b s).now = s.now ∧ (settle b s).pending = s.pending ∧ (settle b s).src = s.src ∧
    (settle b s).lq = s.lq ∧ (settle b s).mem = s.mem ∧ (settle b s).scan = s.scan ∧ (settle b s).grp = s.grp ∧
    (settle b s).ctl = s.ctl ∧ (settle b s).ovl = s.ovl ∧ (settle b s).ldr = s.ldr ∧ (settle b s).cfg = s.cfg ∧
    (settle b s).port = s.port ∧ (settle b s).bus.engine = s.bus.engine ∧
    (settle b s).bus.idleCount = s.bus.idleCount ∧ (settle b s).bus.holdoff = s.bus.holdoff ∧
    (settle b s).bus.mute = s.bus.mute ∧ (settle b s).bus.muteAges = s.bus.muteAges ∧
    (settle b s).bus.recessiveFrom = s.bus.recessiveFrom ∧ (settle b s).bus.runFrom = s.bus.runFrom ∧
    (settle b s).bus.startEpoch = s.bus.startEpoch ∧ (settle b s).bus.bitTime = s.bus.bitTime ∧
    (settle b s).lag.actions = s.lag.actions ∧ (settle b s).lag.frozen = s.lag.frozen := by
  (repeat' apply And.intro) <;>
  first | (simp [settle]; done) | rfl | (simp only [settle, whenever]; (repeat' split) <;> simp; done) | (unfold settle; (repeat' split) <;> simp [whenever] <;> (repeat' split) <;> simp; done)

@[simp] theorem sendStartBit_frame (r : TxReg) (s : State) :
    (sendStartBit r s).now = s.now ∧ (sendStartBit r s).pending = s.pending ∧ (sendStartBit r s).src = s.src ∧
    (sendStartBit r s).lq = s.lq ∧ (sendStartBit r s).mem = s.mem ∧ (sendStartBit r s).scan = s.scan ∧
    (sendStartBit r s).grp = s.grp ∧ (sendStartBit r s).ctl = s.ctl ∧ (sendStartBit r s).ovl = s.ovl ∧
    (sendStartBit r s).ldr = s.ldr ∧ (sendStartBit r s).cfg = s.cfg ∧ (sendStartBit r s).port = s.port ∧
    (sendStartBit r s).judged = s.judged ∧ (sendStartBit r s).bus.holdoff = s.bus.holdoff ∧
    (sendStartBit r s).bus.mute = s.bus.mute ∧ (sendStartBit r s).bus.muteAges = s.bus.muteAges ∧
    (sendStartBit r s).bus.recessiveFrom = s.bus.recessiveFrom ∧ (sendStartBit r s).bus.bitTime = s.bus.bitTime ∧
    (sendStartBit r s).lag.actions = s.lag.actions ∧ (sendStartBit r s).lag.frozen = s.lag.frozen := by
  (repeat' apply And.intro) <;>
  first | (simp [sendStartBit]; done) | rfl | (simp only [sendStartBit, whenever]; (repeat' split) <;> simp; done) | (unfold sendStartBit; (repeat' split) <;> simp [whenever] <;> (repeat' split) <;> simp; done)

@[simp] theorem beginAttempt_frame (s : State) :
    (beginAttempt s).now = s.now ∧ (beginAttempt s).pending = s.pending ∧ (beginAttempt s).src = s.src ∧
    (beginAttempt s).lq = s.lq ∧ (beginAttempt s).mem = s.mem ∧ (beginAttempt s).scan = s.scan ∧
    (beginAttempt s).grp = s.grp ∧ (beginAttempt s).ctl = s.ctl ∧ (beginAttempt s).ovl = s.ovl ∧
    (beginAttempt s).ldr = s.ldr ∧ (beginAttempt s).cfg = s.cfg ∧ (beginAttempt s).port = s.port ∧
    (beginAttempt s).judged = s.judged ∧ (beginAttempt s).bus.holdoff = s.bus.holdoff ∧
    (beginAttempt s).bus.mute = s.bus.mute ∧ (beginAttempt s).bus.muteAges = s.bus.muteAges ∧
    (beginAttempt s).bus.recessiveFrom = s.bus.recessiveFrom ∧ (beginAttempt s).bus.bitTime = s.bus.bitTime ∧
    (beginAttempt s).lag.actions = s.lag.actions ∧ (beginAttempt s).lag.frozen = s.lag.frozen := by
  (repeat' apply And.intro) <;>
  first | (simp [beginAttempt]; done) | rfl | (simp only [beginAttempt, whenever]; (repeat' split) <;> simp; done) | (unfold beginAttempt; (repeat' split) <;> simp [whenever] <;> (repeat' split) <;> simp; done)

@[simp] theorem clearReg_frame (s : State) :
    (clearReg s).now = s.now ∧ (clearReg s).pending = s.pending ∧ (clearReg s).src = s.src ∧
    (clearReg s).lq = s.lq ∧ (clearReg s).mem = s.mem ∧ (clearReg s).scan = s.scan ∧ (clearReg s).grp = s.grp ∧
    (clearReg s).ctl = s.ctl ∧ (clearReg s).ovl = s.ovl ∧ (clearReg s).lag = s.lag ∧ (clearReg s).ldr = s.ldr ∧
    (clearReg s).cfg = s.cfg ∧ (clearReg s).port = s.port ∧ (clearReg s).judged = s.judged ∧
    (clearReg s).bus.engine = s.bus.engine ∧ (clearReg s).bus.idleCount = s.bus.idleCount ∧
    (clearReg s).bus.holdoff = s.bus.holdoff ∧ (clearReg s).bus.mute = s.bus.mute ∧
    (clearReg s).bus.muteAges = s.bus.muteAges ∧ (clearReg s).bus.recessiveFrom = s.bus.recessiveFrom ∧
    (clearReg s).bus.runFrom = s.bus.runFrom ∧ (clearReg s).bus.startEpoch = s.bus.startEpoch ∧
    (clearReg s).bus.bitTime = s.bus.bitTime := by
  (repeat' apply And.intro) <;>
  first | (simp [clearReg]; done) | rfl | (simp only [clearReg, whenever]; (repeat' split) <;> simp; done) | (unfold clearReg; (repeat' split) <;> simp [whenever] <;> (repeat' split) <;> simp; done)

@[simp] theorem countFate_frame (k : Kind) (o : CountOutcome) (s : State) :
    (countFate k o s).now = s.now ∧ (countFate k o s).pending = s.pending ∧ (countFate k o s).src = s.src ∧
    (countFate k o s).lq = s.lq ∧ (countFate k o s).mem = s.mem ∧ (countFate k o s).scan = s.scan ∧
    (countFate k o s).bus = s.bus ∧ (countFate k o s).grp = s.grp ∧ (countFate k o s).ctl = s.ctl ∧
    (countFate k o s).ovl = s.ovl ∧ (countFate k o s).ldr = s.ldr ∧ (countFate k o s).cfg = s.cfg ∧
    (countFate k o s).port = s.port ∧ (countFate k o s).judged = s.judged ∧
    (countFate k o s).lag.actions = s.lag.actions ∧ (countFate k o s).lag.frozen = s.lag.frozen := by
  (repeat' apply And.intro) <;>
  first | (simp [countFate]; done) | rfl | (simp only [countFate, whenever]; (repeat' split) <;> simp; done) | (unfold countFate; (repeat' split) <;> simp [whenever] <;> (repeat' split) <;> simp; done)

@[simp] theorem returnNotice_frame (r : TxReg) (n : Queued) (s : State) :
    (returnNotice r n s).now = s.now ∧ (returnNotice r n s).pending = s.pending ∧ (returnNotice r n s).src = s.src ∧
    (returnNotice r n s).lq = s.lq ∧ (returnNotice r n s).mem = s.mem ∧ (returnNotice r n s).scan = s.scan ∧
    (returnNotice r n s).grp = s.grp ∧ (returnNotice r n s).ctl = s.ctl ∧ (returnNotice r n s).ovl = s.ovl ∧
    (returnNotice r n s).ldr = s.ldr ∧ (returnNotice r n s).cfg = s.cfg ∧ (returnNotice r n s).port = s.port ∧
    (returnNotice r n s).judged = s.judged ∧ (returnNotice r n s).bus.engine = s.bus.engine ∧
    (returnNotice r n s).bus.idleCount = s.bus.idleCount ∧ (returnNotice r n s).bus.holdoff = s.bus.holdoff ∧
    (returnNotice r n s).bus.mute = s.bus.mute ∧ (returnNotice r n s).bus.muteAges = s.bus.muteAges ∧
    (returnNotice r n s).bus.recessiveFrom = s.bus.recessiveFrom ∧
    (returnNotice r n s).bus.runFrom = s.bus.runFrom ∧ (returnNotice r n s).bus.startEpoch = s.bus.startEpoch ∧
    (returnNotice r n s).bus.bitTime = s.bus.bitTime ∧ (returnNotice r n s).lag.actions = s.lag.actions ∧
    (returnNotice r n s).lag.frozen = s.lag.frozen := by
  (repeat' apply And.intro) <;>
  first | (simp [returnNotice]; done) | rfl | (simp only [returnNotice, whenever]; (repeat' split) <;> simp; done) | (unfold returnNotice; (repeat' split) <;> simp [whenever] <;> (repeat' split) <;> simp; done)

@[simp] theorem noticeDropped_frame (r : TxReg) (s : State) :
    (noticeDropped r s).now = s.now ∧ (noticeDropped r s).pending = s.pending ∧ (noticeDropped r s).src = s.src ∧
    (noticeDropped r s).lq = s.lq ∧ (noticeDropped r s).mem = s.mem ∧ (noticeDropped r s).scan = s.scan ∧
    (noticeDropped r s).ovl = s.ovl ∧ (noticeDropped r s).ldr = s.ldr ∧ (noticeDropped r s).cfg = s.cfg ∧
    (noticeDropped r s).judged = s.judged ∧ (noticeDropped r s).bus.engine = s.bus.engine ∧
    (noticeDropped r s).bus.idleCount = s.bus.idleCount ∧ (noticeDropped r s).bus.holdoff = s.bus.holdoff ∧
    (noticeDropped r s).bus.mute = s.bus.mute ∧ (noticeDropped r s).bus.muteAges = s.bus.muteAges ∧
    (noticeDropped r s).bus.recessiveFrom = s.bus.recessiveFrom ∧ (noticeDropped r s).bus.runFrom = s.bus.runFrom ∧
    (noticeDropped r s).bus.startEpoch = s.bus.startEpoch ∧ (noticeDropped r s).bus.bitTime = s.bus.bitTime ∧
    (noticeDropped r s).grp.refusal = s.grp.refusal ∧ (noticeDropped r s).grp.dupLatch = s.grp.dupLatch ∧
    (noticeDropped r s).grp.epoch = s.grp.epoch ∧ (noticeDropped r s).ctl.st = s.ctl.st ∧
    (noticeDropped r s).ctl.held = s.ctl.held ∧ (noticeDropped r s).ctl.station = s.ctl.station ∧
    (noticeDropped r s).ctl.sleepFails = s.ctl.sleepFails ∧ (noticeDropped r s).ctl.warm = s.ctl.warm ∧
    (noticeDropped r s).port.masks = s.port.masks ∧ (noticeDropped r s).port.arg = s.port.arg := by
  (repeat' apply And.intro) <;>
  first | (simp [noticeDropped]; done) | rfl | (simp only [noticeDropped, whenever]; (repeat' split) <;> simp; done) | (unfold noticeDropped; (repeat' split) <;> simp [whenever] <;> (repeat' split) <;> simp; done)

@[simp] theorem failAttempt_frame (r : TxReg) (s : State) :
    (failAttempt r s).now = s.now ∧ (failAttempt r s).pending = s.pending ∧ (failAttempt r s).src = s.src ∧
    (failAttempt r s).lq = s.lq ∧ (failAttempt r s).mem = s.mem ∧ (failAttempt r s).scan = s.scan ∧
    (failAttempt r s).ovl = s.ovl ∧ (failAttempt r s).ldr = s.ldr ∧ (failAttempt r s).cfg = s.cfg ∧
    (failAttempt r s).judged = s.judged ∧ (failAttempt r s).bus.engine = s.bus.engine ∧
    (failAttempt r s).bus.idleCount = s.bus.idleCount ∧ (failAttempt r s).bus.holdoff = s.bus.holdoff ∧
    (failAttempt r s).bus.mute = s.bus.mute ∧ (failAttempt r s).bus.muteAges = s.bus.muteAges ∧
    (failAttempt r s).bus.recessiveFrom = s.bus.recessiveFrom ∧ (failAttempt r s).bus.runFrom = s.bus.runFrom ∧
    (failAttempt r s).bus.startEpoch = s.bus.startEpoch ∧ (failAttempt r s).bus.bitTime = s.bus.bitTime ∧
    (failAttempt r s).grp.refusal = s.grp.refusal ∧ (failAttempt r s).grp.dupLatch = s.grp.dupLatch ∧
    (failAttempt r s).grp.epoch = s.grp.epoch ∧ (failAttempt r s).ctl.st = s.ctl.st ∧
    (failAttempt r s).ctl.held = s.ctl.held ∧ (failAttempt r s).ctl.station = s.ctl.station ∧
    (failAttempt r s).ctl.sleepFails = s.ctl.sleepFails ∧ (failAttempt r s).ctl.warm = s.ctl.warm ∧
    (failAttempt r s).port.masks = s.port.masks ∧ (failAttempt r s).port.arg = s.port.arg := by
  (repeat' apply And.intro) <;>
  first | (simp [failAttempt]; done) | rfl | (simp only [failAttempt, whenever]; (repeat' split) <;> simp; done) | (unfold failAttempt; (repeat' split) <;> simp [whenever] <;> (repeat' split) <;> simp; done)

@[simp] theorem leaveWire_frame (n : Nat) (a : Nat) (s : State) :
    (leaveWire n a s).now = s.now ∧ (leaveWire n a s).pending = s.pending ∧ (leaveWire n a s).src = s.src ∧
    (leaveWire n a s).lq = s.lq ∧ (leaveWire n a s).mem = s.mem ∧ (leaveWire n a s).scan = s.scan ∧
    (leaveWire n a s).grp = s.grp ∧ (leaveWire n a s).ctl = s.ctl ∧ (leaveWire n a s).ovl = s.ovl ∧
    (leaveWire n a s).lag = s.lag ∧ (leaveWire n a s).ldr = s.ldr ∧ (leaveWire n a s).cfg = s.cfg ∧
    (leaveWire n a s).port = s.port ∧ (leaveWire n a s).judged = s.judged ∧ (leaveWire n a s).bus.reg = s.bus.reg ∧
    (leaveWire n a s).bus.holdoff = s.bus.holdoff ∧ (leaveWire n a s).bus.mute = s.bus.mute ∧
    (leaveWire n a s).bus.muteAges = s.bus.muteAges ∧ (leaveWire n a s).bus.startEpoch = s.bus.startEpoch ∧
    (leaveWire n a s).bus.bitTime = s.bus.bitTime := by
  (repeat' apply And.intro) <;>
  first | (simp [leaveWire]; done) | rfl | (simp only [leaveWire, whenever]; (repeat' split) <;> simp; done) | (unfold leaveWire; (repeat' split) <;> simp [whenever] <;> (repeat' split) <;> simp; done)

@[simp] theorem readDominant_frame (s : State) :
    (readDominant s).now = s.now ∧ (readDominant s).pending = s.pending ∧ (readDominant s).src = s.src ∧
    (readDominant s).lq = s.lq ∧ (readDominant s).mem = s.mem ∧ (readDominant s).scan = s.scan ∧
    (readDominant s).grp = s.grp ∧ (readDominant s).ctl = s.ctl ∧ (readDominant s).ovl = s.ovl ∧
    (readDominant s).lag = s.lag ∧ (readDominant s).ldr = s.ldr ∧ (readDominant s).cfg = s.cfg ∧
    (readDominant s).port = s.port ∧ (readDominant s).judged = s.judged ∧ (readDominant s).bus.reg = s.bus.reg ∧
    (readDominant s).bus.holdoff = s.bus.holdoff ∧ (readDominant s).bus.mute = s.bus.mute ∧
    (readDominant s).bus.muteAges = s.bus.muteAges ∧ (readDominant s).bus.bitTime = s.bus.bitTime := by
  (repeat' apply And.intro) <;>
  first | (simp [readDominant]; done) | rfl | (simp only [readDominant, whenever]; (repeat' split) <;> simp; done) | (unfold readDominant; (repeat' split) <;> simp [whenever] <;> (repeat' split) <;> simp; done)

@[simp] theorem attemptStarts_frame (b : Bool) (s : State) :
    (attemptStarts b s).now = s.now ∧ (attemptStarts b s).pending = s.pending ∧ (attemptStarts b s).src = s.src ∧
    (attemptStarts b s).lq = s.lq ∧ (attemptStarts b s).mem = s.mem ∧ (attemptStarts b s).scan = s.scan ∧
    (attemptStarts b s).grp = s.grp ∧ (attemptStarts b s).ctl = s.ctl ∧ (attemptStarts b s).ovl = s.ovl ∧
    (attemptStarts b s).ldr = s.ldr ∧ (attemptStarts b s).cfg = s.cfg ∧ (attemptStarts b s).port = s.port ∧
    (attemptStarts b s).judged = s.judged ∧ (attemptStarts b s).bus.holdoff = s.bus.holdoff ∧
    (attemptStarts b s).bus.mute = s.bus.mute ∧ (attemptStarts b s).bus.muteAges = s.bus.muteAges ∧
    (attemptStarts b s).bus.bitTime = s.bus.bitTime ∧ (attemptStarts b s).lag.actions = s.lag.actions ∧
    (attemptStarts b s).lag.frozen = s.lag.frozen := by
  (repeat' apply And.intro) <;>
  first | (simp [attemptStarts]; done) | rfl | (simp only [attemptStarts, whenever]; (repeat' split) <;> simp; done) | (unfold attemptStarts; (repeat' split) <;> simp [whenever] <;> (repeat' split) <;> simp; done)

@[simp] theorem judgeRepeat_frame (e : Epoch) (s : State) :
    (judgeRepeat e s).now = s.now ∧ (judgeRepeat e s).pending = s.pending ∧ (judgeRepeat e s).src = s.src ∧
    (judgeRepeat e s).mem = s.mem ∧ (judgeRepeat e s).ctl = s.ctl ∧ (judgeRepeat e s).ldr = s.ldr ∧
    (judgeRepeat e s).cfg = s.cfg ∧ (judgeRepeat e s).lq.ring = s.lq.ring ∧
    (judgeRepeat e s).lq.outPtr = s.lq.outPtr ∧ (judgeRepeat e s).lq.staging = s.lq.staging ∧
    (judgeRepeat e s).bus.engine = s.bus.engine ∧ (judgeRepeat e s).bus.idleCount = s.bus.idleCount ∧
    (judgeRepeat e s).bus.reg = s.bus.reg ∧ (judgeRepeat e s).bus.holdoff = s.bus.holdoff ∧
    (judgeRepeat e s).bus.mute = s.bus.mute ∧ (judgeRepeat e s).bus.recessiveFrom = s.bus.recessiveFrom ∧
    (judgeRepeat e s).bus.runFrom = s.bus.runFrom ∧ (judgeRepeat e s).bus.startEpoch = s.bus.startEpoch ∧
    (judgeRepeat e s).bus.bitTime = s.bus.bitTime ∧ (judgeRepeat e s).port.masks = s.port.masks ∧
    (judgeRepeat e s).port.arg = s.port.arg ∧ (judgeRepeat e s).judged.standby = s.judged.standby := by
  (repeat' apply And.intro) <;>
  first | (simp [judgeRepeat]; done) | rfl | (simp only [judgeRepeat, whenever]; (repeat' split) <;> simp; done) | (unfold judgeRepeat; (repeat' split) <;> simp [whenever] <;> (repeat' split) <;> simp; done)

@[simp] theorem refuseOther_frame (x : Nat) (s : State) :
    (refuseOther x s).now = s.now ∧ (refuseOther x s).pending = s.pending ∧ (refuseOther x s).src = s.src ∧
    (refuseOther x s).lq = s.lq ∧ (refuseOther x s).mem = s.mem ∧ (refuseOther x s).scan = s.scan ∧
    (refuseOther x s).ovl = s.ovl ∧ (refuseOther x s).ldr = s.ldr ∧ (refuseOther x s).cfg = s.cfg ∧
    (refuseOther x s).judged = s.judged ∧ (refuseOther x s).bus.engine = s.bus.engine ∧
    (refuseOther x s).bus.idleCount = s.bus.idleCount ∧ (refuseOther x s).bus.holdoff = s.bus.holdoff ∧
    (refuseOther x s).bus.mute = s.bus.mute ∧ (refuseOther x s).bus.muteAges = s.bus.muteAges ∧
    (refuseOther x s).bus.recessiveFrom = s.bus.recessiveFrom ∧ (refuseOther x s).bus.runFrom = s.bus.runFrom ∧
    (refuseOther x s).bus.startEpoch = s.bus.startEpoch ∧ (refuseOther x s).bus.bitTime = s.bus.bitTime ∧
    (refuseOther x s).grp.refusal = s.grp.refusal ∧ (refuseOther x s).grp.dupLatch = s.grp.dupLatch ∧
    (refuseOther x s).grp.epoch = s.grp.epoch ∧ (refuseOther x s).ctl.st = s.ctl.st ∧
    (refuseOther x s).ctl.held = s.ctl.held ∧ (refuseOther x s).ctl.station = s.ctl.station ∧
    (refuseOther x s).ctl.sleepFails = s.ctl.sleepFails ∧ (refuseOther x s).ctl.warm = s.ctl.warm ∧
    (refuseOther x s).port.masks = s.port.masks ∧ (refuseOther x s).port.arg = s.port.arg := by
  (repeat' apply And.intro) <;>
  first | (simp [refuseOther]; done) | rfl | (simp only [refuseOther, whenever]; (repeat' split) <;> simp; done) | (unfold refuseOther; (repeat' split) <;> simp [whenever] <;> (repeat' split) <;> simp; done)

@[simp] theorem refuseCompleted_frame (p : List Byte) (s : State) :
    (refuseCompleted p s).now = s.now ∧ (refuseCompleted p s).pending = s.pending ∧
    (refuseCompleted p s).src = s.src ∧ (refuseCompleted p s).lq = s.lq ∧ (refuseCompleted p s).mem = s.mem ∧
    (refuseCompleted p s).scan = s.scan ∧ (refuseCompleted p s).ovl = s.ovl ∧ (refuseCompleted p s).ldr = s.ldr ∧
    (refuseCompleted p s).cfg = s.cfg ∧ (refuseCompleted p s).judged = s.judged ∧
    (refuseCompleted p s).bus.engine = s.bus.engine ∧ (refuseCompleted p s).bus.idleCount = s.bus.idleCount ∧
    (refuseCompleted p s).bus.holdoff = s.bus.holdoff ∧ (refuseCompleted p s).bus.mute = s.bus.mute ∧
    (refuseCompleted p s).bus.muteAges = s.bus.muteAges ∧
    (refuseCompleted p s).bus.recessiveFrom = s.bus.recessiveFrom ∧
    (refuseCompleted p s).bus.runFrom = s.bus.runFrom ∧ (refuseCompleted p s).bus.startEpoch = s.bus.startEpoch ∧
    (refuseCompleted p s).bus.bitTime = s.bus.bitTime ∧ (refuseCompleted p s).grp.refusal = s.grp.refusal ∧
    (refuseCompleted p s).grp.dupLatch = s.grp.dupLatch ∧ (refuseCompleted p s).grp.epoch = s.grp.epoch ∧
    (refuseCompleted p s).ctl.st = s.ctl.st ∧ (refuseCompleted p s).ctl.held = s.ctl.held ∧
    (refuseCompleted p s).ctl.station = s.ctl.station ∧ (refuseCompleted p s).ctl.sleepFails = s.ctl.sleepFails ∧
    (refuseCompleted p s).ctl.warm = s.ctl.warm ∧ (refuseCompleted p s).port.masks = s.port.masks ∧
    (refuseCompleted p s).port.arg = s.port.arg := by
  (repeat' apply And.intro) <;>
  first | (simp [refuseCompleted]; done) | rfl | (simp only [refuseCompleted, whenever]; (repeat' split) <;> simp; done) | (unfold refuseCompleted; (repeat' split) <;> simp [whenever] <;> (repeat' split) <;> simp; done)

@[simp] theorem statusCompleted_frame (p : List Byte) (c : Epoch) (s : State) :
    (statusCompleted p c s).now = s.now ∧ (statusCompleted p c s).pending = s.pending ∧
    (statusCompleted p c s).src = s.src ∧ (statusCompleted p c s).lq = s.lq ∧ (statusCompleted p c s).mem = s.mem ∧
    (statusCompleted p c s).scan = s.scan ∧ (statusCompleted p c s).ctl = s.ctl ∧
    (statusCompleted p c s).ovl = s.ovl ∧ (statusCompleted p c s).ldr = s.ldr ∧
    (statusCompleted p c s).cfg = s.cfg ∧ (statusCompleted p c s).judged = s.judged ∧
    (statusCompleted p c s).bus.engine = s.bus.engine ∧ (statusCompleted p c s).bus.idleCount = s.bus.idleCount ∧
    (statusCompleted p c s).bus.reg = s.bus.reg ∧ (statusCompleted p c s).bus.holdoff = s.bus.holdoff ∧
    (statusCompleted p c s).bus.mute = s.bus.mute ∧ (statusCompleted p c s).bus.muteAges = s.bus.muteAges ∧
    (statusCompleted p c s).bus.recessiveFrom = s.bus.recessiveFrom ∧
    (statusCompleted p c s).bus.runFrom = s.bus.runFrom ∧
    (statusCompleted p c s).bus.startEpoch = s.bus.startEpoch ∧
    (statusCompleted p c s).bus.bitTime = s.bus.bitTime ∧
    (statusCompleted p c s).grp.membership = s.grp.membership ∧ (statusCompleted p c s).grp.peers = s.grp.peers ∧
    (statusCompleted p c s).grp.refusal = s.grp.refusal ∧ (statusCompleted p c s).grp.dupLatch = s.grp.dupLatch ∧
    (statusCompleted p c s).grp.epoch = s.grp.epoch ∧ (statusCompleted p c s).lag.actions = s.lag.actions ∧
    (statusCompleted p c s).port.masks = s.port.masks ∧ (statusCompleted p c s).port.arg = s.port.arg := by
  (repeat' apply And.intro) <;>
  first | (simp [statusCompleted]; done) | rfl | (simp only [statusCompleted, whenever]; (repeat' split) <;> simp; done) | (unfold statusCompleted; (repeat' split) <;> simp [whenever] <;> (repeat' split) <;> simp; done)

@[simp] theorem countNotice_frame (c : Epoch) (a : Byte) (s : State) :
    (countNotice c a s).now = s.now ∧ (countNotice c a s).pending = s.pending ∧ (countNotice c a s).src = s.src ∧
    (countNotice c a s).lq = s.lq ∧ (countNotice c a s).mem = s.mem ∧ (countNotice c a s).scan = s.scan ∧
    (countNotice c a s).bus = s.bus ∧ (countNotice c a s).grp = s.grp ∧ (countNotice c a s).ctl = s.ctl ∧
    (countNotice c a s).ovl = s.ovl ∧ (countNotice c a s).ldr = s.ldr ∧ (countNotice c a s).cfg = s.cfg ∧
    (countNotice c a s).port = s.port ∧ (countNotice c a s).judged = s.judged ∧
    (countNotice c a s).lag.outcome = s.lag.outcome := by
  (repeat' apply And.intro) <;>
  first | (simp [countNotice]; done) | rfl | (simp only [countNotice, whenever]; (repeat' split) <;> simp; done) | (unfold countNotice; (repeat' split) <;> simp [whenever] <;> (repeat' split) <;> simp; done)

@[simp] theorem giveWay_frame (r : TxReg) (s : State) :
    (giveWay r s).now = s.now ∧ (giveWay r s).pending = s.pending ∧ (giveWay r s).src = s.src ∧
    (giveWay r s).lq = s.lq ∧ (giveWay r s).mem = s.mem ∧ (giveWay r s).scan = s.scan ∧ (giveWay r s).grp = s.grp ∧
    (giveWay r s).ctl = s.ctl ∧ (giveWay r s).ovl = s.ovl ∧ (giveWay r s).ldr = s.ldr ∧ (giveWay r s).cfg = s.cfg ∧
    (giveWay r s).port = s.port ∧ (giveWay r s).judged = s.judged ∧ (giveWay r s).bus.engine = s.bus.engine ∧
    (giveWay r s).bus.idleCount = s.bus.idleCount ∧ (giveWay r s).bus.holdoff = s.bus.holdoff ∧
    (giveWay r s).bus.mute = s.bus.mute ∧ (giveWay r s).bus.muteAges = s.bus.muteAges ∧
    (giveWay r s).bus.recessiveFrom = s.bus.recessiveFrom ∧ (giveWay r s).bus.runFrom = s.bus.runFrom ∧
    (giveWay r s).bus.startEpoch = s.bus.startEpoch ∧ (giveWay r s).bus.bitTime = s.bus.bitTime ∧
    (giveWay r s).lag.actions = s.lag.actions ∧ (giveWay r s).lag.frozen = s.lag.frozen := by
  (repeat' apply And.intro) <;>
  first | (simp [giveWay]; done) | rfl | (simp only [giveWay, whenever]; (repeat' split) <;> simp; done) | (unfold giveWay; (repeat' split) <;> simp [whenever] <;> (repeat' split) <;> simp; done)

@[simp] theorem loseToOwnNumber_frame (r : TxReg) (s : State) :
    (loseToOwnNumber r s).now = s.now ∧ (loseToOwnNumber r s).pending = s.pending ∧
    (loseToOwnNumber r s).src = s.src ∧ (loseToOwnNumber r s).lq = s.lq ∧ (loseToOwnNumber r s).mem = s.mem ∧
    (loseToOwnNumber r s).scan = s.scan ∧ (loseToOwnNumber r s).ovl = s.ovl ∧ (loseToOwnNumber r s).ldr = s.ldr ∧
    (loseToOwnNumber r s).cfg = s.cfg ∧ (loseToOwnNumber r s).judged = s.judged ∧
    (loseToOwnNumber r s).bus.engine = s.bus.engine ∧ (loseToOwnNumber r s).bus.idleCount = s.bus.idleCount ∧
    (loseToOwnNumber r s).bus.holdoff = s.bus.holdoff ∧ (loseToOwnNumber r s).bus.mute = s.bus.mute ∧
    (loseToOwnNumber r s).bus.muteAges = s.bus.muteAges ∧
    (loseToOwnNumber r s).bus.recessiveFrom = s.bus.recessiveFrom ∧
    (loseToOwnNumber r s).bus.runFrom = s.bus.runFrom ∧ (loseToOwnNumber r s).bus.startEpoch = s.bus.startEpoch ∧
    (loseToOwnNumber r s).bus.bitTime = s.bus.bitTime ∧ (loseToOwnNumber r s).grp.refusal = s.grp.refusal ∧
    (loseToOwnNumber r s).grp.epoch = s.grp.epoch ∧ (loseToOwnNumber r s).ctl.st = s.ctl.st ∧
    (loseToOwnNumber r s).ctl.held = s.ctl.held ∧ (loseToOwnNumber r s).ctl.station = s.ctl.station ∧
    (loseToOwnNumber r s).ctl.sleepFails = s.ctl.sleepFails ∧ (loseToOwnNumber r s).ctl.warm = s.ctl.warm ∧
    (loseToOwnNumber r s).port.masks = s.port.masks ∧ (loseToOwnNumber r s).port.arg = s.port.arg := by
  (repeat' apply And.intro) <;>
  first | (simp [loseToOwnNumber]; done) | rfl | (simp only [loseToOwnNumber, whenever]; (repeat' split) <;> simp; done) | (unfold loseToOwnNumber; (repeat' split) <;> simp [whenever] <;> (repeat' split) <;> simp; done)

@[simp] theorem loseArbitration_frame (r : TxReg) (p : Nat) (s : State) :
    (loseArbitration r p s).now = s.now ∧ (loseArbitration r p s).pending = s.pending ∧
    (loseArbitration r p s).src = s.src ∧ (loseArbitration r p s).lq = s.lq ∧ (loseArbitration r p s).mem = s.mem ∧
    (loseArbitration r p s).scan = s.scan ∧ (loseArbitration r p s).ovl = s.ovl ∧
    (loseArbitration r p s).ldr = s.ldr ∧ (loseArbitration r p s).cfg = s.cfg ∧
    (loseArbitration r p s).judged = s.judged ∧ (loseArbitration r p s).bus.holdoff = s.bus.holdoff ∧
    (loseArbitration r p s).bus.mute = s.bus.mute ∧ (loseArbitration r p s).bus.muteAges = s.bus.muteAges ∧
    (loseArbitration r p s).bus.startEpoch = s.bus.startEpoch ∧
    (loseArbitration r p s).bus.bitTime = s.bus.bitTime ∧ (loseArbitration r p s).grp.refusal = s.grp.refusal ∧
    (loseArbitration r p s).grp.epoch = s.grp.epoch ∧ (loseArbitration r p s).ctl.st = s.ctl.st ∧
    (loseArbitration r p s).ctl.held = s.ctl.held ∧ (loseArbitration r p s).ctl.station = s.ctl.station ∧
    (loseArbitration r p s).ctl.sleepFails = s.ctl.sleepFails ∧ (loseArbitration r p s).ctl.warm = s.ctl.warm ∧
    (loseArbitration r p s).port.masks = s.port.masks ∧ (loseArbitration r p s).port.arg = s.port.arg := by
  (repeat' apply And.intro) <;>
  first | (simp [loseArbitration]; done) | rfl | (simp only [loseArbitration, whenever]; (repeat' split) <;> simp; done) | (unfold loseArbitration; (repeat' split) <;> simp [whenever] <;> (repeat' split) <;> simp; done)

@[simp] theorem bitErrorAt_frame (r : TxReg) (p : Nat) (s : State) :
    (bitErrorAt r p s).now = s.now ∧ (bitErrorAt r p s).pending = s.pending ∧ (bitErrorAt r p s).src = s.src ∧
    (bitErrorAt r p s).lq = s.lq ∧ (bitErrorAt r p s).mem = s.mem ∧ (bitErrorAt r p s).scan = s.scan ∧
    (bitErrorAt r p s).ovl = s.ovl ∧ (bitErrorAt r p s).ldr = s.ldr ∧ (bitErrorAt r p s).cfg = s.cfg ∧
    (bitErrorAt r p s).judged = s.judged ∧ (bitErrorAt r p s).bus.holdoff = s.bus.holdoff ∧
    (bitErrorAt r p s).bus.mute = s.bus.mute ∧ (bitErrorAt r p s).bus.muteAges = s.bus.muteAges ∧
    (bitErrorAt r p s).bus.startEpoch = s.bus.startEpoch ∧ (bitErrorAt r p s).bus.bitTime = s.bus.bitTime ∧
    (bitErrorAt r p s).grp.refusal = s.grp.refusal ∧ (bitErrorAt r p s).grp.dupLatch = s.grp.dupLatch ∧
    (bitErrorAt r p s).grp.epoch = s.grp.epoch ∧ (bitErrorAt r p s).ctl.st = s.ctl.st ∧
    (bitErrorAt r p s).ctl.held = s.ctl.held ∧ (bitErrorAt r p s).ctl.station = s.ctl.station ∧
    (bitErrorAt r p s).ctl.sleepFails = s.ctl.sleepFails ∧ (bitErrorAt r p s).ctl.warm = s.ctl.warm ∧
    (bitErrorAt r p s).port.masks = s.port.masks ∧ (bitErrorAt r p s).port.arg = s.port.arg := by
  (repeat' apply And.intro) <;>
  first | (simp [bitErrorAt]; done) | rfl | (simp only [bitErrorAt, whenever]; (repeat' split) <;> simp; done) | (unfold bitErrorAt; (repeat' split) <;> simp [whenever] <;> (repeat' split) <;> simp; done)

@[simp] theorem mutePermanently_frame (s : State) :
    (mutePermanently s).now = s.now ∧ (mutePermanently s).pending = s.pending ∧ (mutePermanently s).src = s.src ∧
    (mutePermanently s).lq = s.lq ∧ (mutePermanently s).mem = s.mem ∧ (mutePermanently s).scan = s.scan ∧
    (mutePermanently s).ovl = s.ovl ∧ (mutePermanently s).ldr = s.ldr ∧ (mutePermanently s).cfg = s.cfg ∧
    (mutePermanently s).judged = s.judged ∧ (mutePermanently s).bus.engine = s.bus.engine ∧
    (mutePermanently s).bus.idleCount = s.bus.idleCount ∧ (mutePermanently s).bus.holdoff = s.bus.holdoff ∧
    (mutePermanently s).bus.muteAges = s.bus.muteAges ∧
    (mutePermanently s).bus.recessiveFrom = s.bus.recessiveFrom ∧ (mutePermanently s).bus.runFrom = s.bus.runFrom ∧
    (mutePermanently s).bus.startEpoch = s.bus.startEpoch ∧ (mutePermanently s).bus.bitTime = s.bus.bitTime ∧
    (mutePermanently s).grp.refusal = s.grp.refusal ∧ (mutePermanently s).grp.dupLatch = s.grp.dupLatch ∧
    (mutePermanently s).grp.epoch = s.grp.epoch ∧ (mutePermanently s).ctl.st = s.ctl.st ∧
    (mutePermanently s).ctl.held = s.ctl.held ∧ (mutePermanently s).ctl.station = s.ctl.station ∧
    (mutePermanently s).ctl.sleepFails = s.ctl.sleepFails ∧ (mutePermanently s).ctl.warm = s.ctl.warm ∧
    (mutePermanently s).port.masks = s.port.masks ∧ (mutePermanently s).port.arg = s.port.arg := by
  (repeat' apply And.intro) <;>
  first | (simp [mutePermanently]; done) | rfl | (simp only [mutePermanently, whenever]; (repeat' split) <;> simp; done) | (unfold mutePermanently; (repeat' split) <;> simp [whenever] <;> (repeat' split) <;> simp; done)

@[simp] theorem muteDriver_frame (s : State) :
    (muteDriver s).now = s.now ∧ (muteDriver s).pending = s.pending ∧ (muteDriver s).src = s.src ∧
    (muteDriver s).lq = s.lq ∧ (muteDriver s).mem = s.mem ∧ (muteDriver s).scan = s.scan ∧
    (muteDriver s).ovl = s.ovl ∧ (muteDriver s).ldr = s.ldr ∧ (muteDriver s).cfg = s.cfg ∧
    (muteDriver s).judged = s.judged ∧ (muteDriver s).bus.holdoff = s.bus.holdoff ∧
    (muteDriver s).bus.startEpoch = s.bus.startEpoch ∧ (muteDriver s).bus.bitTime = s.bus.bitTime ∧
    (muteDriver s).grp.refusal = s.grp.refusal ∧ (muteDriver s).grp.dupLatch = s.grp.dupLatch ∧
    (muteDriver s).grp.epoch = s.grp.epoch ∧ (muteDriver s).ctl.st = s.ctl.st ∧
    (muteDriver s).ctl.held = s.ctl.held ∧ (muteDriver s).ctl.station = s.ctl.station ∧
    (muteDriver s).ctl.sleepFails = s.ctl.sleepFails ∧ (muteDriver s).ctl.warm = s.ctl.warm ∧
    (muteDriver s).port.masks = s.port.masks ∧ (muteDriver s).port.arg = s.port.arg := by
  (repeat' apply And.intro) <;>
  first | (simp [muteDriver]; done) | rfl | (simp only [muteDriver, whenever]; (repeat' split) <;> simp; done) | (unfold muteDriver; (repeat' split) <;> simp [whenever] <;> (repeat' split) <;> simp; done)

@[simp] theorem noticeOver_frame (n : Nat) (a : Nat) (b : Bool) (s : State) :
    (noticeOver n a b s).now = s.now ∧ (noticeOver n a b s).pending = s.pending ∧ (noticeOver n a b s).src = s.src ∧
    (noticeOver n a b s).lq = s.lq ∧ (noticeOver n a b s).mem = s.mem ∧ (noticeOver n a b s).scan = s.scan ∧
    (noticeOver n a b s).grp = s.grp ∧ (noticeOver n a b s).ctl = s.ctl ∧ (noticeOver n a b s).ovl = s.ovl ∧
    (noticeOver n a b s).lag = s.lag ∧ (noticeOver n a b s).ldr = s.ldr ∧ (noticeOver n a b s).cfg = s.cfg ∧
    (noticeOver n a b s).port = s.port ∧ (noticeOver n a b s).judged = s.judged ∧
    (noticeOver n a b s).bus.reg = s.bus.reg ∧ (noticeOver n a b s).bus.mute = s.bus.mute ∧
    (noticeOver n a b s).bus.muteAges = s.bus.muteAges ∧ (noticeOver n a b s).bus.startEpoch = s.bus.startEpoch ∧
    (noticeOver n a b s).bus.bitTime = s.bus.bitTime := by
  (repeat' apply And.intro) <;>
  first | (simp [noticeOver]; done) | rfl | (simp only [noticeOver, whenever]; (repeat' split) <;> simp; done) | (unfold noticeOver; (repeat' split) <;> simp [whenever] <;> (repeat' split) <;> simp; done)

@[simp] theorem discardNotice_frame (n : Nat) (a : Nat) (b : Bool) (s : State) :
    (discardNotice n a b s).now = s.now ∧ (discardNotice n a b s).pending = s.pending ∧
    (discardNotice n a b s).ldr = s.ldr ∧ (discardNotice n a b s).cfg = s.cfg ∧
    (discardNotice n a b s).scan.shown = s.scan.shown ∧ (discardNotice n a b s).scan.margin = s.scan.margin ∧
    (discardNotice n a b s).scan.cleanRun = s.scan.cleanRun ∧
    (discardNotice n a b s).scan.ownLead = s.scan.ownLead ∧
    (discardNotice n a b s).scan.holdInUse = s.scan.holdInUse ∧ (discardNotice n a b s).bus.mute = s.bus.mute ∧
    (discardNotice n a b s).bus.muteAges = s.bus.muteAges ∧
    (discardNotice n a b s).bus.startEpoch = s.bus.startEpoch ∧
    (discardNotice n a b s).bus.bitTime = s.bus.bitTime ∧ (discardNotice n a b s).grp.refusal = s.grp.refusal ∧
    (discardNotice n a b s).grp.dupLatch = s.grp.dupLatch ∧ (discardNotice n a b s).grp.epoch = s.grp.epoch ∧
    (discardNotice n a b s).ctl.held = s.ctl.held ∧ (discardNotice n a b s).ctl.station = s.ctl.station ∧
    (discardNotice n a b s).ctl.warm = s.ctl.warm ∧ (discardNotice n a b s).port.masks = s.port.masks ∧
    (discardNotice n a b s).port.arg = s.port.arg ∧ (discardNotice n a b s).judged.standby = s.judged.standby := by
  (repeat' apply And.intro) <;>
  first | (simp [discardNotice]; done) | rfl | (simp only [discardNotice, whenever]; (repeat' split) <;> simp; done) | (unfold discardNotice; (repeat' split) <;> simp [whenever] <;> (repeat' split) <;> simp; done)

@[simp] theorem heardFrom_frame (x : Nat) (s : State) :
    (heardFrom x s).now = s.now ∧ (heardFrom x s).pending = s.pending ∧ (heardFrom x s).src = s.src ∧
    (heardFrom x s).lq = s.lq ∧ (heardFrom x s).mem = s.mem ∧ (heardFrom x s).scan = s.scan ∧
    (heardFrom x s).bus = s.bus ∧ (heardFrom x s).ctl = s.ctl ∧ (heardFrom x s).ovl = s.ovl ∧
    (heardFrom x s).lag = s.lag ∧ (heardFrom x s).ldr = s.ldr ∧ (heardFrom x s).cfg = s.cfg ∧
    (heardFrom x s).port = s.port ∧ (heardFrom x s).judged = s.judged ∧
    (heardFrom x s).grp.membership = s.grp.membership ∧ (heardFrom x s).grp.refusal = s.grp.refusal ∧
    (heardFrom x s).grp.dupLatch = s.grp.dupLatch ∧ (heardFrom x s).grp.epoch = s.grp.epoch := by
  (repeat' apply And.intro) <;>
  first | (simp [heardFrom]; done) | rfl | (simp only [heardFrom, whenever]; (repeat' split) <;> simp; done) | (unfold heardFrom; (repeat' split) <;> simp [whenever] <;> (repeat' split) <;> simp; done)

@[simp] theorem recheckSilent_frame (x : Nat) (s : State) :
    (recheckSilent x s).now = s.now ∧ (recheckSilent x s).pending = s.pending ∧ (recheckSilent x s).src = s.src ∧
    (recheckSilent x s).lq = s.lq ∧ (recheckSilent x s).mem = s.mem ∧ (recheckSilent x s).scan = s.scan ∧
    (recheckSilent x s).ctl = s.ctl ∧ (recheckSilent x s).ovl = s.ovl ∧ (recheckSilent x s).ldr = s.ldr ∧
    (recheckSilent x s).cfg = s.cfg ∧ (recheckSilent x s).judged = s.judged ∧
    (recheckSilent x s).bus.engine = s.bus.engine ∧ (recheckSilent x s).bus.idleCount = s.bus.idleCount ∧
    (recheckSilent x s).bus.reg = s.bus.reg ∧ (recheckSilent x s).bus.holdoff = s.bus.holdoff ∧
    (recheckSilent x s).bus.mute = s.bus.mute ∧ (recheckSilent x s).bus.muteAges = s.bus.muteAges ∧
    (recheckSilent x s).bus.recessiveFrom = s.bus.recessiveFrom ∧ (recheckSilent x s).bus.runFrom = s.bus.runFrom ∧
    (recheckSilent x s).bus.startEpoch = s.bus.startEpoch ∧ (recheckSilent x s).bus.bitTime = s.bus.bitTime ∧
    (recheckSilent x s).grp.membership = s.grp.membership ∧ (recheckSilent x s).grp.refusal = s.grp.refusal ∧
    (recheckSilent x s).grp.dupLatch = s.grp.dupLatch ∧ (recheckSilent x s).grp.epoch = s.grp.epoch ∧
    (recheckSilent x s).lag.actions = s.lag.actions ∧ (recheckSilent x s).port.masks = s.port.masks ∧
    (recheckSilent x s).port.arg = s.port.arg := by
  (repeat' apply And.intro) <;>
  first | (simp [recheckSilent]; done) | rfl | (simp only [recheckSilent, whenever]; (repeat' split) <;> simp; done) | (unfold recheckSilent; (repeat' split) <;> simp [whenever] <;> (repeat' split) <;> simp; done)

@[simp] theorem renewPeer_frame (x : Nat) (j : JoinRec) (s : State) :
    (renewPeer x j s).now = s.now ∧ (renewPeer x j s).pending = s.pending ∧ (renewPeer x j s).src = s.src ∧
    (renewPeer x j s).lq = s.lq ∧ (renewPeer x j s).mem = s.mem ∧ (renewPeer x j s).scan = s.scan ∧
    (renewPeer x j s).ctl = s.ctl ∧ (renewPeer x j s).ovl = s.ovl ∧ (renewPeer x j s).ldr = s.ldr ∧
    (renewPeer x j s).cfg = s.cfg ∧ (renewPeer x j s).judged = s.judged ∧
    (renewPeer x j s).bus.engine = s.bus.engine ∧ (renewPeer x j s).bus.idleCount = s.bus.idleCount ∧
    (renewPeer x j s).bus.reg = s.bus.reg ∧ (renewPeer x j s).bus.holdoff = s.bus.holdoff ∧
    (renewPeer x j s).bus.mute = s.bus.mute ∧ (renewPeer x j s).bus.muteAges = s.bus.muteAges ∧
    (renewPeer x j s).bus.recessiveFrom = s.bus.recessiveFrom ∧ (renewPeer x j s).bus.runFrom = s.bus.runFrom ∧
    (renewPeer x j s).bus.startEpoch = s.bus.startEpoch ∧ (renewPeer x j s).bus.bitTime = s.bus.bitTime ∧
    (renewPeer x j s).grp.membership = s.grp.membership ∧ (renewPeer x j s).grp.refusal = s.grp.refusal ∧
    (renewPeer x j s).grp.dupLatch = s.grp.dupLatch ∧ (renewPeer x j s).grp.epoch = s.grp.epoch ∧
    (renewPeer x j s).lag.actions = s.lag.actions ∧ (renewPeer x j s).port.masks = s.port.masks ∧
    (renewPeer x j s).port.arg = s.port.arg := by
  (repeat' apply And.intro) <;>
  first | (simp [renewPeer]; done) | rfl | (simp only [renewPeer, whenever]; (repeat' split) <;> simp; done) | (unfold renewPeer; (repeat' split) <;> simp [whenever] <;> (repeat' split) <;> simp; done)

@[simp] theorem joinEffect_frame (x : Nat) (j : JoinRec) (s : State) :
    (joinEffect x j s).now = s.now ∧ (joinEffect x j s).pending = s.pending ∧ (joinEffect x j s).src = s.src ∧
    (joinEffect x j s).lq = s.lq ∧ (joinEffect x j s).mem = s.mem ∧ (joinEffect x j s).scan = s.scan ∧
    (joinEffect x j s).ctl = s.ctl ∧ (joinEffect x j s).ovl = s.ovl ∧ (joinEffect x j s).ldr = s.ldr ∧
    (joinEffect x j s).cfg = s.cfg ∧ (joinEffect x j s).judged = s.judged ∧
    (joinEffect x j s).bus.engine = s.bus.engine ∧ (joinEffect x j s).bus.idleCount = s.bus.idleCount ∧
    (joinEffect x j s).bus.reg = s.bus.reg ∧ (joinEffect x j s).bus.holdoff = s.bus.holdoff ∧
    (joinEffect x j s).bus.mute = s.bus.mute ∧ (joinEffect x j s).bus.muteAges = s.bus.muteAges ∧
    (joinEffect x j s).bus.recessiveFrom = s.bus.recessiveFrom ∧ (joinEffect x j s).bus.runFrom = s.bus.runFrom ∧
    (joinEffect x j s).bus.startEpoch = s.bus.startEpoch ∧ (joinEffect x j s).bus.bitTime = s.bus.bitTime ∧
    (joinEffect x j s).grp.membership = s.grp.membership ∧ (joinEffect x j s).grp.refusal = s.grp.refusal ∧
    (joinEffect x j s).grp.dupLatch = s.grp.dupLatch ∧ (joinEffect x j s).grp.epoch = s.grp.epoch ∧
    (joinEffect x j s).lag.actions = s.lag.actions ∧ (joinEffect x j s).port.masks = s.port.masks ∧
    (joinEffect x j s).port.arg = s.port.arg := by
  (repeat' apply And.intro) <;>
  first | (simp [joinEffect]; done) | rfl | (simp only [joinEffect, whenever]; (repeat' split) <;> simp; done) | (unfold joinEffect; (repeat' split) <;> simp [whenever] <;> (repeat' split) <;> simp; done)

@[simp] theorem refuseEffect_frame (n : StationNo) (x : Nat) (r : BitVec 2) (s : State) :
    (refuseEffect n x r s).now = s.now ∧ (refuseEffect n x r s).pending = s.pending ∧
    (refuseEffect n x r s).src = s.src ∧ (refuseEffect n x r s).lq = s.lq ∧ (refuseEffect n x r s).mem = s.mem ∧
    (refuseEffect n x r s).scan = s.scan ∧ (refuseEffect n x r s).ovl = s.ovl ∧ (refuseEffect n x r s).ldr = s.ldr ∧
    (refuseEffect n x r s).cfg = s.cfg ∧ (refuseEffect n x r s).judged = s.judged ∧
    (refuseEffect n x r s).bus.engine = s.bus.engine ∧ (refuseEffect n x r s).bus.idleCount = s.bus.idleCount ∧
    (refuseEffect n x r s).bus.holdoff = s.bus.holdoff ∧ (refuseEffect n x r s).bus.mute = s.bus.mute ∧
    (refuseEffect n x r s).bus.muteAges = s.bus.muteAges ∧
    (refuseEffect n x r s).bus.recessiveFrom = s.bus.recessiveFrom ∧
    (refuseEffect n x r s).bus.runFrom = s.bus.runFrom ∧ (refuseEffect n x r s).bus.startEpoch = s.bus.startEpoch ∧
    (refuseEffect n x r s).bus.bitTime = s.bus.bitTime ∧ (refuseEffect n x r s).grp.dupLatch = s.grp.dupLatch ∧
    (refuseEffect n x r s).grp.epoch = s.grp.epoch ∧ (refuseEffect n x r s).ctl.st = s.ctl.st ∧
    (refuseEffect n x r s).ctl.held = s.ctl.held ∧ (refuseEffect n x r s).ctl.station = s.ctl.station ∧
    (refuseEffect n x r s).ctl.sleepFails = s.ctl.sleepFails ∧ (refuseEffect n x r s).ctl.warm = s.ctl.warm ∧
    (refuseEffect n x r s).port.masks = s.port.masks ∧ (refuseEffect n x r s).port.arg = s.port.arg := by
  (repeat' apply And.intro) <;>
  first | (simp [refuseEffect]; done) | rfl | (simp only [refuseEffect, whenever]; (repeat' split) <;> simp; done) | (unfold refuseEffect; (repeat' split) <;> simp [whenever] <;> (repeat' split) <;> simp; done)

@[simp] theorem leaveEffect_frame (x : Nat) (s : State) :
    (leaveEffect x s).now = s.now ∧ (leaveEffect x s).pending = s.pending ∧ (leaveEffect x s).src = s.src ∧
    (leaveEffect x s).lq = s.lq ∧ (leaveEffect x s).mem = s.mem ∧ (leaveEffect x s).scan = s.scan ∧
    (leaveEffect x s).ovl = s.ovl ∧ (leaveEffect x s).ldr = s.ldr ∧ (leaveEffect x s).cfg = s.cfg ∧
    (leaveEffect x s).judged = s.judged ∧ (leaveEffect x s).bus.engine = s.bus.engine ∧
    (leaveEffect x s).bus.idleCount = s.bus.idleCount ∧ (leaveEffect x s).bus.holdoff = s.bus.holdoff ∧
    (leaveEffect x s).bus.mute = s.bus.mute ∧ (leaveEffect x s).bus.muteAges = s.bus.muteAges ∧
    (leaveEffect x s).bus.recessiveFrom = s.bus.recessiveFrom ∧ (leaveEffect x s).bus.runFrom = s.bus.runFrom ∧
    (leaveEffect x s).bus.startEpoch = s.bus.startEpoch ∧ (leaveEffect x s).bus.bitTime = s.bus.bitTime ∧
    (leaveEffect x s).grp.refusal = s.grp.refusal ∧ (leaveEffect x s).grp.dupLatch = s.grp.dupLatch ∧
    (leaveEffect x s).grp.epoch = s.grp.epoch ∧ (leaveEffect x s).ctl.st = s.ctl.st ∧
    (leaveEffect x s).ctl.held = s.ctl.held ∧ (leaveEffect x s).ctl.station = s.ctl.station ∧
    (leaveEffect x s).ctl.sleepFails = s.ctl.sleepFails ∧ (leaveEffect x s).ctl.warm = s.ctl.warm ∧
    (leaveEffect x s).port.masks = s.port.masks ∧ (leaveEffect x s).port.arg = s.port.arg := by
  (repeat' apply And.intro) <;>
  first | (simp [leaveEffect]; done) | rfl | (simp only [leaveEffect, whenever]; (repeat' split) <;> simp; done) | (unfold leaveEffect; (repeat' split) <;> simp [whenever] <;> (repeat' split) <;> simp; done)

@[simp] theorem statusEffect_frame (x : Nat) (c : Epoch) (a : Ann) (s : State) :
    (statusEffect x c a s).now = s.now ∧ (statusEffect x c a s).pending = s.pending ∧
    (statusEffect x c a s).src = s.src ∧ (statusEffect x c a s).lq = s.lq ∧ (statusEffect x c a s).mem = s.mem ∧
    (statusEffect x c a s).scan = s.scan ∧ (statusEffect x c a s).ctl = s.ctl ∧ (statusEffect x c a s).ovl = s.ovl ∧
    (statusEffect x c a s).ldr = s.ldr ∧ (statusEffect x c a s).cfg = s.cfg ∧
    (statusEffect x c a s).judged = s.judged ∧ (statusEffect x c a s).bus.engine = s.bus.engine ∧
    (statusEffect x c a s).bus.idleCount = s.bus.idleCount ∧ (statusEffect x c a s).bus.reg = s.bus.reg ∧
    (statusEffect x c a s).bus.holdoff = s.bus.holdoff ∧ (statusEffect x c a s).bus.mute = s.bus.mute ∧
    (statusEffect x c a s).bus.muteAges = s.bus.muteAges ∧
    (statusEffect x c a s).bus.recessiveFrom = s.bus.recessiveFrom ∧
    (statusEffect x c a s).bus.runFrom = s.bus.runFrom ∧ (statusEffect x c a s).bus.startEpoch = s.bus.startEpoch ∧
    (statusEffect x c a s).bus.bitTime = s.bus.bitTime ∧ (statusEffect x c a s).grp.membership = s.grp.membership ∧
    (statusEffect x c a s).grp.refusal = s.grp.refusal ∧ (statusEffect x c a s).grp.dupLatch = s.grp.dupLatch ∧
    (statusEffect x c a s).grp.epoch = s.grp.epoch ∧ (statusEffect x c a s).lag.actions = s.lag.actions ∧
    (statusEffect x c a s).port.masks = s.port.masks ∧ (statusEffect x c a s).port.arg = s.port.arg := by
  (repeat' apply And.intro) <;>
  first | (simp [statusEffect]; done) | rfl | (simp only [statusEffect, whenever]; (repeat' split) <;> simp; done) | (unfold statusEffect; (repeat' split) <;> simp [whenever] <;> (repeat' split) <;> simp; done)

@[simp] theorem wakeEffect_frame (m : BitVec 16) (s : State) :
    (wakeEffect m s).now = s.now ∧ (wakeEffect m s).pending = s.pending ∧ (wakeEffect m s).lq = s.lq ∧
    (wakeEffect m s).mem = s.mem ∧ (wakeEffect m s).scan = s.scan ∧ (wakeEffect m s).ovl = s.ovl ∧
    (wakeEffect m s).ldr = s.ldr ∧ (wakeEffect m s).cfg = s.cfg ∧ (wakeEffect m s).judged = s.judged ∧
    (wakeEffect m s).src.fails = s.src.fails ∧ (wakeEffect m s).src.frameOpen = s.src.frameOpen ∧
    (wakeEffect m s).src.serial = s.src.serial ∧ (wakeEffect m s).src.raster = s.src.raster ∧
    (wakeEffect m s).src.fill = s.src.fill ∧ (wakeEffect m s).src.running = s.src.running ∧
    (wakeEffect m s).bus.engine = s.bus.engine ∧ (wakeEffect m s).bus.idleCount = s.bus.idleCount ∧
    (wakeEffect m s).bus.holdoff = s.bus.holdoff ∧ (wakeEffect m s).bus.mute = s.bus.mute ∧
    (wakeEffect m s).bus.muteAges = s.bus.muteAges ∧ (wakeEffect m s).bus.recessiveFrom = s.bus.recessiveFrom ∧
    (wakeEffect m s).bus.runFrom = s.bus.runFrom ∧ (wakeEffect m s).bus.startEpoch = s.bus.startEpoch ∧
    (wakeEffect m s).bus.bitTime = s.bus.bitTime ∧ (wakeEffect m s).grp.membership = s.grp.membership ∧
    (wakeEffect m s).grp.peers = s.grp.peers ∧ (wakeEffect m s).grp.refusal = s.grp.refusal ∧
    (wakeEffect m s).grp.dupLatch = s.grp.dupLatch ∧ (wakeEffect m s).grp.epoch = s.grp.epoch ∧
    (wakeEffect m s).ctl.held = s.ctl.held ∧ (wakeEffect m s).ctl.station = s.ctl.station ∧
    (wakeEffect m s).ctl.departure = s.ctl.departure ∧ (wakeEffect m s).ctl.warm = s.ctl.warm ∧
    (wakeEffect m s).lag.actions = s.lag.actions ∧ (wakeEffect m s).port.masks = s.port.masks ∧
    (wakeEffect m s).port.arg = s.port.arg := by
  (repeat' apply And.intro) <;>
  first | (simp [wakeEffect]; done) | rfl | (simp only [wakeEffect, whenever]; (repeat' split) <;> simp; done) | (unfold wakeEffect; (repeat' split) <;> simp [whenever] <;> (repeat' split) <;> simp; done)

@[simp] theorem identEffect_frame (n : Byte) (s : State) :
    (identEffect n s).now = s.now ∧ (identEffect n s).pending = s.pending ∧ (identEffect n s).src = s.src ∧
    (identEffect n s).lq = s.lq ∧ (identEffect n s).mem = s.mem ∧ (identEffect n s).scan = s.scan ∧
    (identEffect n s).grp = s.grp ∧ (identEffect n s).ctl = s.ctl ∧ (identEffect n s).ldr = s.ldr ∧
    (identEffect n s).cfg = s.cfg ∧ (identEffect n s).port = s.port ∧ (identEffect n s).judged = s.judged ∧
    (identEffect n s).bus.engine = s.bus.engine ∧ (identEffect n s).bus.idleCount = s.bus.idleCount ∧
    (identEffect n s).bus.holdoff = s.bus.holdoff ∧ (identEffect n s).bus.mute = s.bus.mute ∧
    (identEffect n s).bus.muteAges = s.bus.muteAges ∧ (identEffect n s).bus.recessiveFrom = s.bus.recessiveFrom ∧
    (identEffect n s).bus.runFrom = s.bus.runFrom ∧ (identEffect n s).bus.startEpoch = s.bus.startEpoch ∧
    (identEffect n s).bus.bitTime = s.bus.bitTime ∧ (identEffect n s).lag.actions = s.lag.actions ∧
    (identEffect n s).lag.frozen = s.lag.frozen := by
  (repeat' apply And.intro) <;>
  first | (simp [identEffect]; done) | rfl | (simp only [identEffect, whenever]; (repeat' split) <;> simp; done) | (unfold identEffect; (repeat' split) <;> simp [whenever] <;> (repeat' split) <;> simp; done)

@[simp] theorem repeatEffect_frame (e : Epoch) (s : State) :
    (repeatEffect e s).now = s.now ∧ (repeatEffect e s).pending = s.pending ∧ (repeatEffect e s).src = s.src ∧
    (repeatEffect e s).mem = s.mem ∧ (repeatEffect e s).ctl = s.ctl ∧ (repeatEffect e s).ldr = s.ldr ∧
    (repeatEffect e s).cfg = s.cfg ∧ (repeatEffect e s).lq.ring = s.lq.ring ∧
    (repeatEffect e s).lq.outPtr = s.lq.outPtr ∧ (repeatEffect e s).lq.staging = s.lq.staging ∧
    (repeatEffect e s).bus.engine = s.bus.engine ∧ (repeatEffect e s).bus.idleCount = s.bus.idleCount ∧
    (repeatEffect e s).bus.reg = s.bus.reg ∧ (repeatEffect e s).bus.holdoff = s.bus.holdoff ∧
    (repeatEffect e s).bus.mute = s.bus.mute ∧ (repeatEffect e s).bus.recessiveFrom = s.bus.recessiveFrom ∧
    (repeatEffect e s).bus.runFrom = s.bus.runFrom ∧ (repeatEffect e s).bus.startEpoch = s.bus.startEpoch ∧
    (repeatEffect e s).bus.bitTime = s.bus.bitTime ∧ (repeatEffect e s).port.masks = s.port.masks ∧
    (repeatEffect e s).port.arg = s.port.arg ∧ (repeatEffect e s).judged.standby = s.judged.standby := by
  (repeat' apply And.intro) <;>
  first | (simp [repeatEffect]; done) | rfl | (simp only [repeatEffect, whenever]; (repeat' split) <;> simp; done) | (unfold repeatEffect; (repeat' split) <;> simp [whenever] <;> (repeat' split) <;> simp; done)

@[simp] theorem hearSender_frame (x : Nat) (s : State) :
    (hearSender x s).now = s.now ∧ (hearSender x s).pending = s.pending ∧ (hearSender x s).src = s.src ∧
    (hearSender x s).lq = s.lq ∧ (hearSender x s).mem = s.mem ∧ (hearSender x s).scan = s.scan ∧
    (hearSender x s).ctl = s.ctl ∧ (hearSender x s).ovl = s.ovl ∧ (hearSender x s).ldr = s.ldr ∧
    (hearSender x s).cfg = s.cfg ∧ (hearSender x s).judged = s.judged ∧ (hearSender x s).bus.engine = s.bus.engine ∧
    (hearSender x s).bus.idleCount = s.bus.idleCount ∧ (hearSender x s).bus.reg = s.bus.reg ∧
    (hearSender x s).bus.holdoff = s.bus.holdoff ∧ (hearSender x s).bus.mute = s.bus.mute ∧
    (hearSender x s).bus.muteAges = s.bus.muteAges ∧ (hearSender x s).bus.recessiveFrom = s.bus.recessiveFrom ∧
    (hearSender x s).bus.runFrom = s.bus.runFrom ∧ (hearSender x s).bus.startEpoch = s.bus.startEpoch ∧
    (hearSender x s).bus.bitTime = s.bus.bitTime ∧ (hearSender x s).grp.membership = s.grp.membership ∧
    (hearSender x s).grp.refusal = s.grp.refusal ∧ (hearSender x s).grp.dupLatch = s.grp.dupLatch ∧
    (hearSender x s).grp.epoch = s.grp.epoch ∧ (hearSender x s).lag.actions = s.lag.actions ∧
    (hearSender x s).port.masks = s.port.masks ∧ (hearSender x s).port.arg = s.port.arg := by
  (repeat' apply And.intro) <;>
  first | (simp [hearSender]; done) | rfl | (simp only [hearSender, whenever]; (repeat' split) <;> simp; done) | (unfold hearSender; (repeat' split) <;> simp [whenever] <;> (repeat' split) <;> simp; done)

@[simp] theorem dropHolding_frame (a : Nat) (s : State) :
    (dropHolding a s).now = s.now ∧ (dropHolding a s).pending = s.pending ∧ (dropHolding a s).src = s.src ∧
    (dropHolding a s).lq = s.lq ∧ (dropHolding a s).mem = s.mem ∧ (dropHolding a s).scan = s.scan ∧
    (dropHolding a s).bus = s.bus ∧ (dropHolding a s).grp = s.grp ∧ (dropHolding a s).ctl = s.ctl ∧
    (dropHolding a s).ovl = s.ovl ∧ (dropHolding a s).lag = s.lag ∧ (dropHolding a s).ldr = s.ldr ∧
    (dropHolding a s).cfg = s.cfg ∧ (dropHolding a s).judged = s.judged ∧
    (dropHolding a s).port.masks = s.port.masks ∧ (dropHolding a s).port.arg = s.port.arg := by
  (repeat' apply And.intro) <;>
  first | (simp [dropHolding]; done) | rfl | (simp only [dropHolding, whenever]; (repeat' split) <;> simp; done) | (unfold dropHolding; (repeat' split) <;> simp [whenever] <;> (repeat' split) <;> simp; done)

@[simp] theorem setPointer_frame (a : Byte) (s : State) :
    (setPointer a s).now = s.now ∧ (setPointer a s).pending = s.pending ∧ (setPointer a s).src = s.src ∧
    (setPointer a s).lq = s.lq ∧ (setPointer a s).mem = s.mem ∧ (setPointer a s).scan = s.scan ∧
    (setPointer a s).bus = s.bus ∧ (setPointer a s).grp = s.grp ∧ (setPointer a s).ctl = s.ctl ∧
    (setPointer a s).ovl = s.ovl ∧ (setPointer a s).lag = s.lag ∧ (setPointer a s).ldr = s.ldr ∧
    (setPointer a s).cfg = s.cfg ∧ (setPointer a s).judged = s.judged ∧ (setPointer a s).port.masks = s.port.masks ∧
    (setPointer a s).port.arg = s.port.arg := by
  (repeat' apply And.intro) <;>
  first | (simp [setPointer]; done) | rfl | (simp only [setPointer, whenever]; (repeat' split) <;> simp; done) | (unfold setPointer; (repeat' split) <;> simp [whenever] <;> (repeat' split) <;> simp; done)

@[simp] theorem pointAt_frame (a : Option Byte) (s : State) :
    (pointAt a s).now = s.now ∧ (pointAt a s).pending = s.pending ∧ (pointAt a s).src = s.src ∧
    (pointAt a s).lq = s.lq ∧ (pointAt a s).mem = s.mem ∧ (pointAt a s).scan = s.scan ∧ (pointAt a s).bus = s.bus ∧
    (pointAt a s).grp = s.grp ∧ (pointAt a s).ctl = s.ctl ∧ (pointAt a s).ovl = s.ovl ∧ (pointAt a s).lag = s.lag ∧
    (pointAt a s).ldr = s.ldr ∧ (pointAt a s).cfg = s.cfg ∧ (pointAt a s).judged = s.judged ∧
    (pointAt a s).port.masks = s.port.masks ∧ (pointAt a s).port.arg = s.port.arg := by
  (repeat' apply And.intro) <;>
  first | (simp [pointAt]; done) | rfl | (simp only [pointAt, whenever]; (repeat' split) <;> simp; done) | (unfold pointAt; (repeat' split) <;> simp [whenever] <;> (repeat' split) <;> simp; done)

end Sys2Proof.Machine
end

