-- ==== Sys2Proof/Laws/Judged.lean ====
section
/-! SUPPORT. What the standing judgements can change, once for all: `settle` leaves everything but the STATUS, REFUSE and STANDBY slots, the register's withdrawal mark and its own notes. -/

namespace Sys2Proof.Machine

theorem JudgedFrom.refl (u : State) : JudgedFrom u u := ⟨rfl, rfl⟩

theorem JudgedFrom.trans {u v w : State} (h : JudgedFrom u v) (k : JudgedFrom v w) : JudgedFrom u w := by
  refine ⟨k.1.trans ?_, k.2.trans h.2⟩
  exact congrArg (fun x : State =>
    { x with
      bus := { x.bus with
        q := { x.bus.q with refuse := w.bus.q.refuse, status := w.bus.q.status, standby := w.bus.q.standby }
        reg := w.bus.reg }
      judged := w.judged }) h.1

/-- The kinds whose slots the standing judgements fill and empty. -/
def Kind.judged : Kind → Bool
  | .refuse | .status | .standby => true
  | _ => false

theorem queueNotice_judged {k : Kind} (hk : k.judged = true) (p : List Byte) (e : Option Epoch) (s : State) :
    JudgedFrom s (queueNotice k p e s) := by
  cases k <;> first | exact absurd hk (by decide) | exact ⟨rfl, rfl⟩

theorem withdraw_judged {k : Kind} (hk : k.judged = true) (s : State) : JudgedFrom s (withdraw k s) := by
  have hr : ∀ r : Option TxReg,
      (match r with
        | some r => some (if r.kind = k then { r with withdrawn := true } else r)
        | none => none : Option TxReg).map TxReg.fixed = r.map TxReg.fixed := by
    intro r
    cases r with
    | none => rfl
    | some r =>
      by_cases h : r.kind = k
      · show Option.map TxReg.fixed (some (if r.kind = k then _ else r)) = _
        rw [if_pos h]; rfl
      · show Option.map TxReg.fixed (some (if r.kind = k then _ else r)) = _
        rw [if_neg h]
  cases k <;> first | exact absurd hk (by decide) | exact ⟨rfl, hr _⟩

theorem whenever_judged {p : Bool} {f : State → State} (h : ∀ s, JudgedFrom s (f s)) (s : State) :
    JudgedFrom s (whenever p f s) := whenever_of (P := JudgedFrom s) (JudgedFrom.refl s) (h s)

theorem announceChange_judged (b s : State) : JudgedFrom s (announceChange b s) :=
  whenever_judged (fun s => queueNotice_judged (k := .status) rfl _ _ s) s

theorem refuseUpkeep_judged (s : State) : JudgedFrom s (refuseUpkeep s) := by
  unfold refuseUpkeep
  split
  · exact JudgedFrom.refl s
  · split
    · exact whenever_judged (fun s => queueNotice_judged (k := .refuse) rfl _ _ s) s
    · exact whenever_judged (fun s => withdraw_judged (k := .refuse) rfl s) s

theorem judgeStandby_judged (s : State) : JudgedFrom s (judgeStandby s) := by
  have hn : JudgedFrom s (s.modJudged fun j => { j with standby := s.standbyHolds }) := ⟨rfl, rfl⟩
  simp only [judgeStandby]
  split
  · exact hn.trans (queueNotice_judged (k := .standby) rfl _ _ _)
  · split
    · exact hn.trans (withdraw_judged (k := .standby) rfl _)
    · exact hn

theorem judgePeriod_judged (b s : State) : JudgedFrom s (judgePeriod b s) :=
  whenever_judged (f := fun s => s.modJudged fun j => { j with period := false }) (fun _ => ⟨rfl, rfl⟩) s

/-- The standing judgements change only what `JudgedFrom` names. -/
theorem settle_judged (b s : State) : JudgedFrom s (settle b s) :=
  (((judgePeriod_judged b s).trans (announceChange_judged b _)).trans (refuseUpkeep_judged _)).trans (judgeStandby_judged _)

/-- A command whose effect is `f` gives `f` of the state at the command's moment. -/
theorem act_gives {i : Instr} {t : Nat} {f : State → State} {s : State} (h : exec i s = act t f s) :
    Gives i s (f (s.advance t)) := ⟨_, h, settle_judged _ _⟩

end Sys2Proof.Machine
end

