-- ==== Sys2Proof/Laws/Kept.lean ====
section
/-! SUPPORT. Frames compose: `Kept` is reflexive, transitive and monotone, each change of one block touches that block, and events, flags and the standing judgements touch none. -/

namespace Sys2Proof.Machine

theorem BusKept.refl (b : Bus) : BusKept b b := ⟨rfl, rfl⟩

theorem BusKept.trans {a b c : Bus} (h : BusKept a b) (k : BusKept b c) : BusKept a c := by
  refine ⟨k.1.trans ?_, k.2.trans h.2⟩
  exact congrArg (fun x : Bus =>
    { x with
      q := { x.q with refuse := c.q.refuse, status := c.q.status, standby := c.q.standby, count := c.q.count }
      reg := c.reg }) h.1

theorem LagKept.refl (l : Lag) : LagKept l l := ⟨rfl, rfl, rfl, rfl, rfl⟩

theorem LagKept.trans {a b c : Lag} (h : LagKept a b) (k : LagKept b c) : LagKept a c :=
  ⟨k.1.trans h.1, k.2.1.trans h.2.1, k.2.2.1.trans h.2.2.1, k.2.2.2.1.trans h.2.2.2.1, k.2.2.2.2.trans h.2.2.2.2⟩

theorem PortKept.refl (p : Port) : PortKept p p := ⟨rfl, BitVec.and_self⟩

theorem PortKept.trans {a b c : Port} (h : PortKept a b) (k : PortKept b c) : PortKept a c := by
  refine ⟨k.1.trans (congrArg (fun x : Port => { x with flags := c.flags }) h.1), ?_⟩
  rw [← h.2, ← BitVec.and_assoc, k.2]

theorem Kept.refl (l : List Block) (s : State) : Kept l s s :=
  ⟨fun _ => rfl, fun _ => rfl, fun _ => rfl, fun _ => rfl, fun _ => BusKept.refl _, fun _ => rfl, fun _ => rfl,
    fun _ => rfl, fun _ => LagKept.refl _, fun _ => rfl, fun _ => rfl, fun _ => PortKept.refl _⟩

theorem Kept.trans {l : List Block} {a b c : State} (h : Kept l a b) (k : Kept l b c) : Kept l a c := by
  obtain ⟨h1, h2, h3, h4, h5, h6, h7, h8, h9, h10, h11, h12⟩ := h
  obtain ⟨k1, k2, k3, k4, k5, k6, k7, k8, k9, k10, k11, k12⟩ := k
  exact ⟨fun n => (k1 n).trans (h1 n), fun n => (k2 n).trans (h2 n), fun n => (k3 n).trans (h3 n),
    fun n => (k4 n).trans (h4 n), fun n => (h5 n).trans (k5 n), fun n => (k6 n).trans (h6 n), fun n => (k7 n).trans (h7 n),
    fun n => (k8 n).trans (h8 n), fun n => (h9 n).trans (k9 n), fun n => (k10 n).trans (h10 n),
    fun n => (k11 n).trans (h11 n), fun n => (h12 n).trans (k12 n)⟩

theorem Kept.mono {l m : List Block} {a b : State} (h : Kept l a b) (sub : ∀ x, x ∈ l → x ∈ m) : Kept m a b := by
  obtain ⟨h1, h2, h3, h4, h5, h6, h7, h8, h9, h10, h11, h12⟩ := h
  exact ⟨fun n => h1 fun x => n (sub _ x), fun n => h2 fun x => n (sub _ x), fun n => h3 fun x => n (sub _ x),
    fun n => h4 fun x => n (sub _ x), fun n => h5 fun x => n (sub _ x), fun n => h6 fun x => n (sub _ x),
    fun n => h7 fun x => n (sub _ x), fun n => h8 fun x => n (sub _ x), fun n => h9 fun x => n (sub _ x),
    fun n => h10 fun x => n (sub _ x), fun n => h11 fun x => n (sub _ x), fun n => h12 fun x => n (sub _ x)⟩

/-- A change that touches no listed block beyond events, flags and judgements is within every frame. -/
theorem Kept.any {l : List Block} {a b : State} (h : Kept [] a b) : Kept l a b := h.mono fun _ m => absurd m (by simp)

theorem Kept.whenever {l : List Block} {p : Bool} {f : State → State} {s : State} (h : Kept l s (f s)) :
    Kept l s (whenever p f s) := whenever_of (P := Kept l s) (Kept.refl l s) h

theorem advance_kept (l : List Block) (s : State) (t : Nat) : Kept l s (s.advance t) := Kept.refl l s

theorem JudgedFrom.kept {l : List Block} {u s' : State} (h : JudgedFrom u s') : Kept l u s' := by
  obtain ⟨e, r⟩ := h
  have v : ∀ {α : Type} (g : State → α), g s' = g _ := fun g => congrArg g e
  have c : u.bus.q.count = s'.bus.q.count := (v fun x => x.bus.q.count).symm
  exact ⟨fun _ => v State.src, fun _ => v State.lq, fun _ => v State.mem, fun _ => v State.scan,
    fun _ => ⟨(v State.bus).trans (congrArg (fun c =>
      { u.bus with
        q := { u.bus.q with refuse := s'.bus.q.refuse, status := s'.bus.q.status, standby := s'.bus.q.standby, count := c }
        reg := s'.bus.reg }) c), r⟩,
    fun _ => v State.grp, fun _ => v State.ctl, fun _ => v State.ovl,
    fun _ => (v State.lag).symm ▸ LagKept.refl _, fun _ => v State.ldr, fun _ => v State.cfg,
    fun _ => (v State.port).symm ▸ PortKept.refl _⟩

/-! ### Changes of one block -/

theorem modSrc_kept {l : List Block} (h : .src ∈ l) (s : State) (f : Src → Src) : Kept l s (s.modSrc f) :=
  let k := Kept.refl l s; ⟨fun n => absurd h n, k.2⟩

theorem modLq_kept {l : List Block} (h : .lq ∈ l) (s : State) (f : Lq → Lq) : Kept l s (s.modLq f) :=
  let k := Kept.refl l s; ⟨k.1, fun n => absurd h n, k.2.2⟩

theorem modMem_kept {l : List Block} (h : .mem ∈ l) (s : State) (f : Mem → Mem) : Kept l s (s.modMem f) :=
  let k := Kept.refl l s; ⟨k.1, k.2.1, fun n => absurd h n, k.2.2.2⟩

theorem modScan_kept {l : List Block} (h : .scan ∈ l) (s : State) (f : Scan → Scan) : Kept l s (s.modScan f) :=
  let k := Kept.refl l s; ⟨k.1, k.2.1, k.2.2.1, fun n => absurd h n, k.2.2.2.2⟩

theorem modBus_kept {l : List Block} (h : .bus ∈ l) (s : State) (f : Bus → Bus) : Kept l s (s.modBus f) :=
  let k := Kept.refl l s; ⟨k.1, k.2.1, k.2.2.1, k.2.2.2.1, fun n => absurd h n, k.2.2.2.2.2⟩

theorem modGrp_kept {l : List Block} (h : .grp ∈ l) (s : State) (f : Grp → Grp) : Kept l s (s.modGrp f) :=
  let k := Kept.refl l s; ⟨k.1, k.2.1, k.2.2.1, k.2.2.2.1, k.2.2.2.2.1, fun n => absurd h n, k.2.2.2.2.2.2⟩

theorem modCtl_kept {l : List Block} (h : .ctl ∈ l) (s : State) (f : Ctl → Ctl) : Kept l s (s.modCtl f) :=
  let k := Kept.refl l s
  ⟨k.1, k.2.1, k.2.2.1, k.2.2.2.1, k.2.2.2.2.1, k.2.2.2.2.2.1, fun n => absurd h n, k.2.2.2.2.2.2.2⟩

theorem modOvl_kept {l : List Block} (h : .ovl ∈ l) (s : State) (f : Ovl → Ovl) : Kept l s (s.modOvl f) :=
  let k := Kept.refl l s
  ⟨k.1, k.2.1, k.2.2.1, k.2.2.2.1, k.2.2.2.2.1, k.2.2.2.2.2.1, k.2.2.2.2.2.2.1, fun n => absurd h n, k.2.2.2.2.2.2.2.2⟩

theorem modLag_kept {l : List Block} (s : State) (f : Lag → Lag) (h : .lag ∈ l ∨ LagKept s.lag (f s.lag)) :
    Kept l s (s.modLag f) :=
  let k := Kept.refl l s
  ⟨k.1, k.2.1, k.2.2.1, k.2.2.2.1, k.2.2.2.2.1, k.2.2.2.2.2.1, k.2.2.2.2.2.2.1, k.2.2.2.2.2.2.2.1,
    fun n => h.resolve_left n, k.2.2.2.2.2.2.2.2.2⟩

theorem modPort_kept {l : List Block} (s : State) (f : Port → Port) (h : .port ∈ l ∨ PortKept s.port (f s.port)) :
    Kept l s (s.modPort f) :=
  let k := Kept.refl l s
  ⟨k.1, k.2.1, k.2.2.1, k.2.2.2.1, k.2.2.2.2.1, k.2.2.2.2.2.1, k.2.2.2.2.2.2.1, k.2.2.2.2.2.2.2.1,
    k.2.2.2.2.2.2.2.2.1, k.2.2.2.2.2.2.2.2.2.1, k.2.2.2.2.2.2.2.2.2.2.1, fun n => h.resolve_left n⟩

/-! ### Events, flags and notices -/

theorem setFlag_kept {l : List Block} (f : Flag) (s : State) : Kept l s (setFlag f s) :=
  modPort_kept s _ (.inr ⟨rfl, by
    show (s.port.flags ||| BitVec.twoPow 11 f.bit) &&& s.port.flags = s.port.flags
    ext i hi
    simp only [BitVec.getElem_and, BitVec.getElem_or]
    cases s.port.flags[i] <;> simp⟩)

theorem setOutcome_kept {l : List Block} (o : CountOutcome) (s : State) : Kept l s (setOutcome o s) :=
  modLag_kept s _ (.inr ⟨rfl, rfl, rfl, rfl, rfl⟩)

theorem setSlot_count_kept {l : List Block} (v : Option Queued) (s : State) : Kept l s (setSlot .count v s) :=
  let k := Kept.refl l s
  ⟨k.1, k.2.1, k.2.2.1, k.2.2.2.1, fun _ => ⟨rfl, rfl⟩, k.2.2.2.2.2⟩

theorem queueCount_kept {l : List Block} (a : CountAction) (s : State) : Kept l s (queueCount a s) :=
  (setSlot_count_kept _ s).trans (setOutcome_kept _ _)

theorem lagTake_kept (l : Lag) (e : Event) : LagKept l (l.take e) := ⟨rfl, rfl, rfl, rfl, rfl⟩

/-- An event touches no block. -/
theorem raise_kept {l : List Block} (e : Event) (s : State) : Kept l s (raise e s) :=
  ((modLag_kept s _ (.inr (lagTake_kept _ e))).trans (Kept.whenever (setFlag_kept _ _))).trans
    (Kept.whenever (queueCount_kept _ _))

/-- The standing judgements touch no block. -/
theorem settle_kept {l : List Block} (b s : State) : Kept l s (settle b s) := (settle_judged b s).kept

/-- The frame of a command is the frame of its effect. -/
theorem act_kept {l : List Block} {t : Nat} {f : State → State} {s : State}
    (h : Kept l (s.advance t) (f (s.advance t))) : ∃ s', act t f s = .next s' ∧ Kept l s s' :=
  ⟨_, rfl, ((advance_kept l s t).trans h).trans (settle_kept _ _)⟩

end Sys2Proof.Machine
end

