-- ==== Sys2Proof/Laws/Lists.lean ====
section
/-! SUPPORT. Lemmas about the lists that the group controller and the lag meter fold over: heard order, the first clash, largest and smallest values, and the bits of a wrap. -/

namespace Sys2Proof.Machine

/-! ### Heard order (R97) and clashes (R99) -/

theorem mem_insertByOrder (e x : Nat × Peer) (xs : List (Nat × Peer)) : x ∈ insertByOrder e xs ↔ x = e ∨ x ∈ xs := by
  induction xs with
  | nil => simp [insertByOrder]
  | cons y ys ih =>
    simp only [insertByOrder]
    split
    · simp
    · simp only [List.mem_cons, ih]
      exact ⟨fun h => by rcases h with h | h | h <;> simp [h], fun h => by rcases h with h | h | h <;> simp [h]⟩

/-- Heard order lists the entries of the table, each of them and no other. -/
theorem mem_byOrder (x : Nat × Peer) (xs : List (Nat × Peer)) : x ∈ byOrder xs ↔ x ∈ xs := by
  induction xs with
  | nil => simp [byOrder]
  | cons y ys ih => simp [byOrder, mem_insertByOrder, ih]

/-- No clash is found exactly where no entry that qualifies and has JOIN fields clashes. -/
theorem firstClash_eq_none (clash : JoinRec → JoinRec → Option Reason) (j : JoinRec) (ok : Nat → Peer → Bool)
    (xs : List (Nat × Peer)) :
    firstClash clash j ok xs = none ↔
      ∀ n p k, (n, p) ∈ xs → ok n p = true → p.join = some k → clash j k = none := by
  induction xs with
  | nil => simp [firstClash]
  | cons y ys ih =>
    obtain ⟨n, p⟩ := y
    have rest : (∀ n' p' k, (n', p') ∈ (n, p) :: ys → ok n' p' = true → p'.join = some k → clash j k = none) ↔
        (∀ k, ok n p = true → p.join = some k → clash j k = none) ∧
          ∀ n' p' k, (n', p') ∈ ys → ok n' p' = true → p'.join = some k → clash j k = none := by
      constructor
      · intro h
        exact ⟨fun k => h n p k (List.mem_cons_self ..), fun n' p' k hm => h n' p' k (List.mem_cons_of_mem _ hm)⟩
      · rintro ⟨h1, h2⟩ n' p' k hm
        rcases List.mem_cons.1 hm with heq | hm
        · cases heq
          exact h1 k
        · exact h2 n' p' k hm
    rw [rest]
    simp only [firstClash]
    cases hj : p.join with
    | none => simp [ih]
    | some k =>
      by_cases ho : ok n p = true
      · simp [ho, ih]
      · simp [ho, ih]

/-! ### Largest and smallest (R125) -/

theorem foldl_max_ge (xs : List Nat) (a : Nat) : a ≤ xs.foldl max a ∧ ∀ x ∈ xs, x ≤ xs.foldl max a := by
  induction xs generalizing a with
  | nil => simp
  | cons y ys ih =>
    have h := ih (max a y)
    simp only [List.foldl_cons, List.mem_cons]
    refine ⟨by omega, fun x hx => ?_⟩
    rcases hx with rfl | hx
    · omega
    · exact h.2 x hx

theorem foldl_max_mem (xs : List Nat) (a : Nat) : xs.foldl max a = a ∨ xs.foldl max a ∈ xs := by
  induction xs generalizing a with
  | nil => simp
  | cons y ys ih =>
    simp only [List.foldl_cons, List.mem_cons]
    rcases ih (max a y) with h | h
    · rw [h]
      omega
    · exact Or.inr (Or.inr h)

theorem foldl_min_le (xs : List Nat) (a : Nat) : xs.foldl min a ≤ a ∧ ∀ x ∈ xs, xs.foldl min a ≤ x := by
  induction xs generalizing a with
  | nil => simp
  | cons y ys ih =>
    have h := ih (min a y)
    simp only [List.foldl_cons, List.mem_cons]
    refine ⟨by omega, fun x hx => ?_⟩
    rcases hx with rfl | hx
    · omega
    · exact h.2 x hx

theorem le_largestOr {l other : Nat} {xs : List Nat} (h : l ∈ xs) : l ≤ largestOr other xs := by
  cases xs with
  | nil => simp at h
  | cons a as =>
    simp only [largestOr]
    rcases List.mem_cons.1 h with rfl | h
    · exact (foldl_max_ge as l).1
    · exact (foldl_max_ge as a).2 l h

theorem largestOr_mem {other : Nat} {xs : List Nat} (h : xs ≠ []) : largestOr other xs ∈ xs := by
  cases xs with
  | nil => exact absurd rfl h
  | cons a as =>
    simp only [largestOr, List.mem_cons]
    exact foldl_max_mem as a

/-! ### Wraps (R171) -/

theorem firstOfSeven : ∀ x0 x1 x2 x3 x4 x5 x6 : Bool,
    (BitVec.ofBool x6 ++ BitVec.ofBool x5 ++ BitVec.ofBool x4 ++ BitVec.ofBool x3 ++ BitVec.ofBool x2 ++
      BitVec.ofBool x1 ++ BitVec.ofBool x0).getLsbD 0 = x0 := by decide

theorem firstFourOfSeven : ∀ x0 x1 x2 x3 x4 x5 x6 : Bool,
    BitVec.ofBool x6 ++ BitVec.ofBool x5 ++ BitVec.ofBool x4 ++ BitVec.ofBool x3 ++ BitVec.ofBool x2 ++
      BitVec.ofBool x1 ++ BitVec.ofBool x0 = 0#7 → x0 = false ∧ x1 = false ∧ x2 = false ∧ x3 = false := by decide

/-- Bit 0 of the wraps is C0's. -/
theorem wrapBits_first (l : Lag) (e : Event) : (l.wrapBits e).getLsbD 0 = l.c0.wrapsAt l.frozen e :=
  firstOfSeven ..

/-- Where nothing wraps no overflow action is taken. -/
theorem wrapAction_of_noWrap {l : Lag} {e : Event} (h : l.wrapBits e = 0#7) (p : OvfAction → Bool) :
    l.wrapAction e p = false := by
  have key : l.c0.wrapsAt l.frozen e = false ∧ l.c1.wrapsAt l.frozen e = false ∧ l.c2.wrapsAt l.frozen e = false ∧
      l.c3.wrapsAt l.frozen e = false := firstFourOfSeven _ _ _ _ _ _ _ h
  simp [Lag.wrapAction, key]

/-- An event that wraps nothing is taken by the counters and changes nothing else. -/
theorem raise_of_noWrap {s : State} {e : Event} (h : s.lag.wrapBits e = 0#7) :
    raise e s = { s with lag := s.lag.take e } := by
  simp [raise, h, wrapAction_of_noWrap h, whenever, State.modLag]

end Sys2Proof.Machine
end

