-- ==== Sys2Proof/Laws/Tables.lean ====
section
/-! SUPPORT. Lemmas about the sparse tables: what is listed after each operation, and that each keeps the canonical form. -/

namespace Sys2Proof.Machine

variable {α : Type}

/-! ### What is listed -/

@[simp] theorem Sparse.get_nil (k : Nat) : Sparse.get ([] : List (Nat × α)) k = none := rfl

@[simp] theorem Sparse.get_put_self (k : Nat) (v : α) (t : List (Nat × α)) : Sparse.get (Sparse.put k v t) k = some v := by
  induction t with
  | nil => simp [Sparse.put, Sparse.get]
  | cons e rest ih =>
    obtain ⟨n, a⟩ := e
    simp only [Sparse.put]
    split
    · simp [Sparse.get]
    · split
      · simp [Sparse.get]
      · rename_i h
        simp [Sparse.get, Ne.symm h, ih]

theorem Sparse.get_put_other {k n : Nat} (h : n ≠ k) (v : α) (t : List (Nat × α)) :
    Sparse.get (Sparse.put k v t) n = Sparse.get t n := by
  induction t with
  | nil => simp [Sparse.put, Sparse.get, Ne.symm h]
  | cons e rest ih =>
    obtain ⟨m, a⟩ := e
    simp only [Sparse.put]
    split
    · simp [Sparse.get, Ne.symm h]
    · split
      · rename_i hk
        subst hk
        simp [Sparse.get, Ne.symm h]
      · simp only [Sparse.get, ih]

@[simp] theorem Sparse.get_erase_self (k : Nat) (t : List (Nat × α)) : Sparse.get (Sparse.erase k t) k = none := by
  induction t with
  | nil => rfl
  | cons e rest ih =>
    obtain ⟨n, a⟩ := e
    by_cases h : n = k <;> simp [Sparse.erase, Sparse.get, h, ih]

theorem Sparse.get_erase_other {k n : Nat} (h : n ≠ k) (t : List (Nat × α)) :
    Sparse.get (Sparse.erase k t) n = Sparse.get t n := by
  induction t with
  | nil => rfl
  | cons e rest ih =>
    obtain ⟨m, a⟩ := e
    by_cases hm : m = k
    · subst hm
      simp [Sparse.erase, Sparse.get, ih, Ne.symm h]
    · simp [Sparse.erase, Sparse.get, hm, ih]

@[simp] theorem Sparse.get_mapVals (f : Nat → α → α) (t : List (Nat × α)) (k : Nat) :
    Sparse.get (Sparse.mapVals f t) k = (Sparse.get t k).map (f k) := by
  induction t with
  | nil => rfl
  | cons e rest ih =>
    obtain ⟨n, a⟩ := e
    by_cases h : n = k
    · subst h
      simp [Sparse.mapVals, Sparse.get]
    · simp [Sparse.mapVals, Sparse.get, h, ih]

/-! ### The canonical form -/

/-- Below `a` nothing is listed, as far as `a` is given. -/
def Sparse.under (a : Option Nat) (k : Nat) : Prop := ∀ x, a = some x → x < k

theorem Sparse.risesAbove_cons (a : Option Nat) (n : Nat) (v : α) (rest : List (Nat × α)) :
    Sparse.risesAbove a ((n, v) :: rest) = true ↔ Sparse.under a n ∧ Sparse.risesAbove (some n) rest = true := by
  cases a <;> simp [Sparse.risesAbove, Sparse.under]

/-- A table that rises above one number rises above a smaller one. -/
theorem Sparse.risesAbove_lower {a : Option Nat} {n : Nat} (h : Sparse.under a n) {t : List (Nat × α)}
    (ht : Sparse.risesAbove (some n) t = true) : Sparse.risesAbove a t = true := by
  cases t with
  | nil => cases a <;> rfl
  | cons e rest =>
    obtain ⟨m, v⟩ := e
    rw [Sparse.risesAbove_cons] at ht ⊢
    refine ⟨fun x hx => ?_, ht.2⟩
    have h1 := ht.1 n rfl
    have h2 := h x hx
    omega

theorem Sparse.risesAbove_put {a : Option Nat} {k : Nat} (hk : Sparse.under a k) (v : α) {t : List (Nat × α)}
    (ht : Sparse.risesAbove a t = true) : Sparse.risesAbove a (Sparse.put k v t) = true := by
  induction t generalizing a with
  | nil => exact (Sparse.risesAbove_cons a k v []).2 ⟨hk, rfl⟩
  | cons e rest ih =>
    obtain ⟨n, w⟩ := e
    rw [Sparse.risesAbove_cons] at ht
    simp only [Sparse.put]
    split
    · rename_i hlt
      rw [Sparse.risesAbove_cons, Sparse.risesAbove_cons]
      exact ⟨hk, fun x hx => by cases hx; exact hlt, ht.2⟩
    · split
      · rename_i heq
        subst heq
        rw [Sparse.risesAbove_cons]
        exact ht
      · rename_i h1 h2
        rw [Sparse.risesAbove_cons]
        exact ⟨ht.1, ih (fun x hx => by cases hx; omega) ht.2⟩

theorem Sparse.risesAbove_erase {a : Option Nat} (k : Nat) {t : List (Nat × α)}
    (ht : Sparse.risesAbove a t = true) : Sparse.risesAbove a (Sparse.erase k t) = true := by
  induction t generalizing a with
  | nil => exact ht
  | cons e rest ih =>
    obtain ⟨n, w⟩ := e
    rw [Sparse.risesAbove_cons] at ht
    simp only [Sparse.erase]
    split
    · exact Sparse.risesAbove_lower ht.1 (ih ht.2)
    · exact (Sparse.risesAbove_cons ..).2 ⟨ht.1, ih ht.2⟩

theorem Sparse.risesAbove_mapVals {a : Option Nat} (f : Nat → α → α) {t : List (Nat × α)}
    (ht : Sparse.risesAbove a t = true) : Sparse.risesAbove a (Sparse.mapVals f t) = true := by
  induction t generalizing a with
  | nil => exact ht
  | cons e rest ih =>
    obtain ⟨n, w⟩ := e
    rw [Sparse.risesAbove_cons] at ht
    exact (Sparse.risesAbove_cons ..).2 ⟨ht.1, ih ht.2⟩

theorem Sparse.wf_put (k : Nat) (v : α) {t : List (Nat × α)} (ht : Sparse.wf t = true) : Sparse.wf (Sparse.put k v t) = true :=
  Sparse.risesAbove_put (fun _ hx => by cases hx) v ht

theorem Sparse.wf_erase (k : Nat) {t : List (Nat × α)} (ht : Sparse.wf t = true) : Sparse.wf (Sparse.erase k t) = true :=
  Sparse.risesAbove_erase k ht

theorem Sparse.wf_mapVals (f : Nat → α → α) {t : List (Nat × α)} (ht : Sparse.wf t = true) :
    Sparse.wf (Sparse.mapVals f t) = true :=
  Sparse.risesAbove_mapVals f ht

theorem Sparse.mem_put {k : Nat} {v : α} {t : List (Nat × α)} {e : Nat × α} (h : e ∈ Sparse.put k v t) : e = (k, v) ∨ e ∈ t := by
  induction t with
  | nil => simpa [Sparse.put] using h
  | cons d rest ih =>
    obtain ⟨n, w⟩ := d
    simp only [Sparse.put] at h
    split at h
    · simpa using h
    · split at h
      · simp only [List.mem_cons] at h ⊢
        rcases h with h | h
        · exact Or.inl h
        · exact Or.inr (Or.inr h)
      · simp only [List.mem_cons] at h ⊢
        rcases h with h | h
        · exact Or.inr (Or.inl h)
        · rcases ih h with h | h
          · exact Or.inl h
          · exact Or.inr (Or.inr h)

theorem Sparse.mem_erase {k : Nat} {t : List (Nat × α)} {e : Nat × α} (h : e ∈ Sparse.erase k t) : e ∈ t := by
  induction t with
  | nil => exact h
  | cons d rest ih =>
    obtain ⟨n, w⟩ := d
    simp only [Sparse.erase] at h
    split at h
    · exact List.mem_cons_of_mem _ (ih h)
    · simp only [List.mem_cons] at h ⊢
      rcases h with h | h
      · exact Or.inl h
      · exact Or.inr (ih h)

/-! ### The row map (R39) and tile memory (R38) -/

@[simp] theorem Mem.entry_setEntry_self (m : Mem) (r : Nat) (e : RowEntry) : (m.setEntry r e).entry r = e := by
  unfold Mem.setEntry
  split
  · rename_i h
    simp [Mem.entry, h]
  · simp [Mem.entry]

theorem Mem.entry_setEntry_other (m : Mem) {r n : Nat} (h : n ≠ r) (e : RowEntry) : (m.setEntry r e).entry n = m.entry n := by
  unfold Mem.setEntry
  split
  · simp [Mem.entry, Sparse.get_erase_other h]
  · simp [Mem.entry, Sparse.get_put_other h]

@[simp] theorem Mem.tile_setEntry (m : Mem) (r : Nat) (e : RowEntry) : (m.setEntry r e).tile = m.tile := by
  unfold Mem.setEntry
  split <;> rfl

/-- Setting a row's entry keeps the canonical form. -/
theorem Mem.wf_setEntry (m : Mem) (r : Nat) (e : RowEntry) (h : m.wf = true) : (m.setEntry r e).wf = true := by
  simp only [Mem.wf, Bool.and_eq_true, List.all_eq_true] at h ⊢
  obtain ⟨⟨h1, h2⟩, h3⟩ := h
  unfold Mem.setEntry
  split
  · exact ⟨⟨h1, Sparse.wf_erase r h2⟩, fun d hd => h3 d (Sparse.mem_erase hd)⟩
  · rename_i hne
    refine ⟨⟨h1, Sparse.wf_put r e h2⟩, fun d hd => ?_⟩
    rcases Sparse.mem_put hd with rfl | hd
    · simpa using hne
    · exact h3 d hd

/-- Writing a row's pixels keeps the canonical form. -/
theorem Mem.wf_writeRow (m : Mem) (r : Nat) (px : List Pixel) (h : m.wf = true) :
    ({ m with tile := Sparse.put r px m.tile } : Mem).wf = true := by
  simp only [Mem.wf, Bool.and_eq_true] at h ⊢
  exact ⟨⟨Sparse.wf_put r px h.1.1, h.1.2⟩, h.2⟩

/-- Right after reset, and after a clearing, the picture is in its canonical form. -/
theorem Mem.wf_reset : Mem.reset.wf = true := by decide

/-- A commit keeps the canonical form of the picture (R35). -/
theorem Mem.wf_commit (m : Mem) (r : Nat) (px : List Pixel) (e : RowEntry) (h : m.wf = true) :
    (({ m with tile := Sparse.put r px m.tile } : Mem).setEntry r e).wf = true :=
  Mem.wf_setEntry _ r e (Mem.wf_writeRow m r px h)

end Sys2Proof.Machine
end

