-- ==== Sys2Proof/WellFormed.lean ====
section
/-! DEFINITION. Which commands are well-formed: the ranges of operands that the types do not give. -/

namespace Sys2Proof

/-- The addresses a command writes belong to its row of the table (R195). -/
def inRange (lo hi : Nat) (a : Byte) : Bool := decide (lo ≤ a.toNat) && decide (a.toNat ≤ hi)

/-- A command is well-formed when its operands are such as the event can carry: an FS or LS mark begins with its type byte
(R195), the image holds 64 bytes (R181), a reading lies in the monitor's range (R155), an unknown command's code is outside
the table of R193, a write names a location of its row (R195), and no more than five equal bits end a stuffed range (R73), to which a form error
in the end field adds the NAK slot and the end bit (R72, R78). Every other operand is limited by its type. -/
def Instr.wf : Instr → Bool
  | .fsArrival _ mark => mark.head? == some 0x01#8
  | .lsArrival _ mark => mark.head? == some 0x02#8
  | .configRead _ image => image.length == 64
  | .temperatureReading _ d => decide (-40 ≤ d) && decide (d ≤ 150)
  | .unknownCommand _ code => code == 0 || decide (12 < code.toNat)
  | .counterValueWrite _ a _ => a.all (inRange 0x40 0x65)
  | .counterSettingsWrite _ a _ => a.all (inRange 0x66 0x6D)
  | .noticeCheckFailure _ e => decide (e.tail.bits ≤ 5)
  | .noticeFormError p => decide (p.tail.bits ≤ if p.tail.dominant then 7 else 5)
  | .markStart .. | .payloadByte .. | .lineCheckEnd .. | .silenceTimerExpiry .. | .lineRateGateClose ..
  | .fillLine .. | .writerTake .. | .transferComplete .. | .writerCommit .. | .idlePassStart ..
  | .newFrameScanStart .. | .repeatScanStart .. | .scanRowRead .. | .scanEnd .. | .minPeriodExpiry ..
  | .strobePulseStart .. | .strobePulseEnd .. | .repeatDeadline .. | .groupOfOneRepeat .. | .privateRepeat ..
  | .noticeAttemptStart .. | .wakeGapEnd .. | .preambleInterrupted .. | .arbitrationLoss .. | .bitError ..
  | .stuffingError .. | .attemptEnd .. | .preambleRecognised ..
  | .wakeHoldoffExpiry .. | .driverMute .. | .muteRelease .. | .busLost .. | .busRecovered ..
  | .repeatReceived .. | .refuseReceived .. | .leaveReceived .. | .joinReceived .. | .statusReceived ..
  | .wakeReceived .. | .standbyReceived .. | .countReceived .. | .identReceived .. | .listenWindowEnd ..
  | .ownRefusalWindowEnd .. | .entryWindowEnd .. | .powerLoss .. | .powerGood .. | .resetPinAssert ..
  | .resetPinRelease .. | .bootEnd .. | .departureEntry .. | .silentRunTimeReached .. | .sourceActivity ..
  | .wakePatternAccepted .. | .wakePatternTimeout .. | .fullReceiverUp .. | .decodeWindowExpiry ..
  | .supplySenseChange .. | .supplyLowTimerExpiry .. | .identifyTimerExpiry .. | .sleep .. | .wake .. | .rejoin ..
  | .identify .. | .freeze .. | .thaw .. | .clear .. | .groupFreeze .. | .groupThaw .. | .groupClear ..
  | .clearFault .. | .reset .. | .imageByteRead .. | .imageIndexWrite .. | .snapshotLatchRead ..
  | .flagClearWrite .. | .maskWrite .. | .registerWrite .. | .busIdle .. | .wakePatternRejected .. => true

end Sys2Proof
end

