-- ==== Sys2Proof/Tests/Slice0.lean ====
section
/-! SUPPORT. Tests: ill-formed commands the check refuses, one step of each kind of command on a small state, and for every obligation with hypotheses states and operands that meet them, clause by clause. -/

namespace Sys2Proof.Tests

open Sys2Proof Sys2Proof.Machine

set_option maxRecDepth 100000
set_option Elab.async false

/-! ### Small states -/

/-- A panel of 3 rows of 2 pixels, at the smallest line and frame periods. -/
def profile : Profile :=
  { w := 2, h := 3, period := 400, minPeriod := 810, cold := 1600, hot := 1200, delay := 5, coldStrobe := 2, hotStrobe := 1 }

/-- One second into RUN: station 5, a MEMBER on an idle bus, COUNTING, without a source. -/
def base : State :=
  { State.reset with
    now := 1000000000
    cfg := { left := 1, top := 1, profile := profile, marginBase := 3, col := 1, row := 0, followWake := false, identifySecs := 0 }
    ctl := { Ctl.reset with st := .run, station := 5, temp := 40 }
    bus := { Bus.reset with engine := .idle, idleCount := 9, runFrom := some 999000000, recessiveFrom := some 999000000 }
    grp := { Grp.reset with membership := .member, groupLead := 3, groupHold := 1600 }
    scan := { Scan.reset with
      margin := 3, ownLead := 3, holdInUse := 1600, active := profile.timing false, shadow := profile.timing false }
    lag := { Lag.reset with frozen := false, cause := .localCmd }
    src := { Src.reset with silenceFrom := some 999000000 } }

def base.at (m : Membership) : State := { base with grp := { base.grp with membership := m } }

def base.inState (st : StationState) : State := { base with ctl := { base.ctl with st := st } }

/-- LOCKED on a source of 64 by 64 pixels, in frame 7. -/
def locked : State :=
  { base with
    src := { base.src with lock := .locked, width := 64, height := 64, frameOpen := true, serial := 7, tagKnown := true }
    scan := { base.scan with
      st := .wait, shown := some 6, lastStart := some 900000000
      waiting := some { serial := 7, admittedAt := 999999000, ended := false } } }

/-- The same with a source line in progress. -/
def lining (l : LineIn) : State := { locked with src := { locked.src with line := some l } }

/-- A line that claimed no slot, its check still to come. -/
def unfinished : LineIn := { index := 0, claimed := false, crc := 0, count := 3, part := [] }

/-- COUNTING freely, counter C0 selecting an event. -/
def counting (select : Nat) (s : State) : State := { s with lag := { s.lag with c0 := { s.lag.c0 with select := select } } }

/-- An FS mark of a 64 by 64 source with a frame tag. -/
def fs (tag : Byte) : List Byte := [0x01, tag, 0x00, 0x40, 0x00, 0x40, 0x01]

def slot (phase : Phase) (serial : Serial) (row : Nat) : Slot :=
  { phase := phase, serial := serial, row := row, pixels := [0x010203, 0x040506], passed := true }

def withQueue (ring : List Slot) (w : Writer) (staging : Option (List Pixel)) : State :=
  { locked with lq := { locked.lq with ring := ring, writer := w, staging := staging } }

/-- Scanning frame 7, `q` rows shown. -/
def scanning (q : Nat) : State :=
  { locked with
    scan := { locked.scan with
      st := .scan, prog := some { serial := 7, q := q }, lastStart := some 1000000000, shown := some 7, waiting := none }
    judged := { standby := false, period := true } }

/-- Sending a notice of a kind. -/
def sending (m : Membership) (k : Kind) (payload : List Byte) (fails : Nat) : State :=
  { base.at m with
    bus := { base.bus with
      engine := .sending
      reg := some { kind := k, notice := { payload := payload, fails := fails, epoch := none }, epoch := 0,
                    withdrawn := false, startedAt := 1000000000, bits := noticeBits k.code 5 0 payload } } }

/-- A notice from station 3, in step. -/
def rx : Rx := { sender := 3, epoch := 0, nak := false }

/-- The same station while it receives a notice that began in its present epoch. -/
def hearing (s : State) : State :=
  { s with bus := { s.bus with engine := .receiving, idleCount := 0, startEpoch := s.grp.epoch } }

/-- A notice from station 3, its epoch one above the own. -/
def ahead : Rx := { rx with epoch := 1 }

def peerAt (st : PeerState) (windowEnd : Option Nat) : Peer :=
  { state := st, join := some { col := 2, row := 0, top := 1, rows := 3, period := 400, minPeriod := 810 }, order := some 1,
    windowEnd := windowEnd, inUse := none, pend := none, heard := 2, due := none }

/-- With station 3 in the peer table. -/
def withPeer (m : Membership) (p : Peer) : State := { base.at m with grp := { (base.at m).grp with peers := [(3, p)] } }

/-- Asleep, the detector in a state; forced, so that it listens for a wake. -/
def asleep (d : Detector) (e : Engine) (fails : Nat) : State :=
  { base.at .outside with
    ctl := { base.ctl with st := .sleep, det := d, sleepFails := fails, forcedListen := true, sleepCause := .forced }
    bus := { base.bus with engine := e } }

def leaving (r : DepReason) (ended : Bool) (since : Nat) : State :=
  { base with ctl := { base.ctl with departure := some { reason := r, queuedAt := since, leaveEnded := ended, decided := false } } }

def standby : State :=
  { base with ctl := { base.ctl with st := .standby }, src := { base.src with lock := .silent, silenceFrom := none } }

/-- The state after a command, or the state before where it stops. -/
def after (i : Instr) (s : State) : State :=
  match exec i s with
  | .next s' => s'
  | _ => s

/-! ### Ill-formed commands are refused (one for each check of Instr.wf) -/

theorem test_wf_fsTypeByte : (Instr.fsArrival 0 (0x02 :: [])).wf = false ∧ (Instr.fsArrival 0 []).wf = false := by decide
theorem test_wf_lsTypeByte : (Instr.lsArrival 0 [0x01, 0, 0]).wf = false := by decide
theorem test_wf_imageLength : (Instr.configRead 0 (List.replicate 63 0)).wf = false := by decide
theorem test_wf_temperatureRange : (Instr.temperatureReading 0 (-41)).wf = false ∧ (Instr.temperatureReading 0 151).wf = false := by
  decide
theorem test_wf_unknownCode : (Instr.unknownCommand 0 1).wf = false ∧ (Instr.unknownCommand 0 12).wf = false := by decide
theorem test_wf_counterValueAddress :
    (Instr.counterValueWrite 0 (some 0x3F) 0).wf = false ∧ (Instr.counterValueWrite 0 (some 0x66) 0).wf = false := by decide
theorem test_wf_counterSettingsAddress :
    (Instr.counterSettingsWrite 0 (some 0x65) 0).wf = false ∧ (Instr.counterSettingsWrite 0 (some 0x6E) 0).wf = false := by
  decide
theorem test_wf_checkFailureTail : (Instr.noticeCheckFailure 0 { tail := ⟨false, 6⟩, nak := false, ends := 0x7F }).wf = false := by decide
theorem test_wf_formErrorTail : (Instr.noticeFormError { moment := 0, tail := ⟨false, 6⟩ }).wf = false := by decide
theorem test_wf_boundsAccepted :
    (Instr.temperatureReading 0 (-40)).wf = true ∧ (Instr.temperatureReading 0 150).wf = true ∧
      (Instr.unknownCommand 0 13).wf = true ∧ (Instr.counterValueWrite 0 (some 0x40) 0).wf = true ∧
      (Instr.counterValueWrite 0 (some 0x65) 0).wf = true ∧ (Instr.counterSettingsWrite 0 (some 0x6D) 0).wf = true ∧
      (Instr.counterValueWrite 0 none 0).wf = true ∧ (Instr.noticeFormError { moment := 0, tail := ⟨true, 7⟩ }).wf = true ∧
      (Instr.noticeCheckFailure 0 { tail := ⟨true, 5⟩, nak := true, ends := 0x7F }).wf = true := by decide

/-! ### One step of each kind of command -/

theorem test_fs_locking : (after (.fsArrival 0 (fs 1)) base).src.lock = .locking := by decide +kernel
theorem test_fs_admits : (after (.fsArrival 0 (fs 1)) locked).src.serial = 8 ∧
    (after (.fsArrival 0 (fs 1)) locked).grp.epoch = 1 := by decide +kernel
theorem test_ls_takesSlot : (after (.lsArrival 0 [0x02, 0, 1]) locked).lq.ring.map (·.phase) = [.filling] := by decide +kernel
theorem test_ls_outsideWindow : (after (.lsArrival 0 [0x02, 0, 4]) locked).lq.ring = [] := by decide +kernel
theorem test_lineCheck_fails :
    (after (.lineCheckEnd 0 1) (lining { index := 0, claimed := false, crc := 0, count := 192, part := [] })).src.fails = 1 := by
  decide +kernel
theorem test_crc16_check : crc16 0xFFFF#16 [0x31, 0x32, 0x33, 0x34, 0x35, 0x36, 0x37, 0x38, 0x39] = 0x29B1#16 := by
  decide +kernel
theorem test_silence : (after (.silenceTimerExpiry 1200000000) base).src.lock = .silent := by decide +kernel
theorem test_commit_writes :
    ((after (.writerCommit 0) (withQueue [slot .writing 7 2] .transfer (some [1, 2]))).rowOf 2) =
      (some [1, 2], { serial := some 7, stale := false }) := by decide +kernel
theorem test_guard_holds : (after (.writerTake 0)
    { scanning 1 with lq := (withQueue [slot .waiting 8 2] .idle none).lq }).lq.writer = .held := by decide +kernel
theorem test_scan_starts : (after (.newFrameScanStart 0)
    { locked with src := { locked.src with raster := some 60 } }).scan.st = .scan := by decide +kernel
theorem test_row_overtakes : (after (.scanRowRead 1000004000) (scanning 1)).scan.overtake = true := by decide +kernel
theorem test_scan_ends_margin : (after (.scanEnd 1000012000)
    { scanning 3 with scan := { (scanning 3).scan with overtake := true } }).scan.margin = 5 := by decide +kernel
theorem test_groupOfOne_epoch : (after (.groupOfOneRepeat 1000000000)
    { base.at .listening with scan := { locked.scan with lastStart := some 900000000 } }).grp.epoch = 1 := by decide +kernel
theorem test_worked_checks : crc8 (coveredBits 1 2 100#8 []) = 0x3E#8 ∧ crc8 (coveredBits 1 7 100#8 []) = 0x38#8 := by decide +kernel
theorem test_attempt_lowestCode : (after (.noticeAttemptStart { moment := 0, heard := false })
    (queueNotice .status [1, 2, 3, 4] none (queueNotice .rep [] (some 9) base))).bus.reg.map (fun r => (r.kind, r.epoch)) =
      some (.rep, 9) := by decide +kernel
theorem test_bitError_retries : (after (.bitError 0 0) (sending .member .leave [1] 0)).bus.q.leave =
    some { payload := [1], fails := 1, epoch := some 0 } := by decide +kernel
theorem test_thirdFailure_drops : (after (.attemptEnd 0 true 0x7F) (sending .member .wake [0, 1] 2)).bus.q.wake = none := by
  decide +kernel
theorem test_attempt_heard : (after (.noticeAttemptStart { moment := 0, heard := true }) base).bus.engine = .receiving := by
  decide +kernel
theorem test_busLost_alone : (after (.busLost 0) (hearing base)).grp.membership = .alone := by decide +kernel
theorem test_loss_startsStuckRun : (after (.arbitrationLoss 1000008000 8) (sending .member .leave [1] 0)).bus.runFrom = some 1000008000 := by
  decide +kernel
theorem test_attempt_endsStuck : (after (.attemptEnd 1000100000 true 0) (sending .member .leave [1] 0)).bus.runFrom = some 1000092000 := by
  decide +kernel
theorem test_longRun_recessiveFrom :
    (after (.preambleRecognised 1000072000 12000 60000 0) (hearing base)).bus.recessiveFrom = some 1000012000 := by decide +kernel
theorem test_repeat_taken : (after (.repeatReceived 0 rx) (hearing base)).grp.lastRepeat = .taken ∧
    (after (.repeatReceived 0 rx) (hearing base)).grp.epoch = 1 := by decide +kernel
theorem test_repeat_ignored : (after (.repeatReceived 0 { rx with epoch := 9 }) (hearing (withPeer .listener (peerAt .pending none)))).grp.lastRepeat =
    .ignored := by decide +kernel
theorem test_refuse_binds : (after (.refuseReceived 0 rx 0x51) (hearing base)).grp.membership = .refused := by decide +kernel
theorem test_join_clash : ((after (.joinReceived 0 rx
    (JoinRec.encode { col := 1, row := 0, top := 1, rows := 3, period := 400, minPeriod := 810 })) (hearing base)).peer 3).bind (·.due) =
      some .tileTaken := by decide +kernel
theorem test_join_accepted : ((after (.joinReceived 0 rx
    (JoinRec.encode { col := 2, row := 0, top := 1, rows := 3, period := 400, minPeriod := 810 })) (hearing base)).peer 3).bind (·.windowEnd) =
      some 1008000000 := by decide +kernel
theorem test_listenWindow_joins : (after (.listenWindowEnd 0)
    { base.at .listening with grp := { (base.at .listening).grp with listenEnd := some 1000000000 } }).grp.membership = .joining := by
  decide +kernel
theorem test_ownNumber_duplicate : (after (.standbyReceived 0 { rx with sender := 5 }) (hearing base)).grp.membership = .duplicate := by
  decide +kernel
theorem test_powerLoss_off : (after (.powerLoss 0) base).ctl.st = .off := by decide +kernel
theorem test_blankImage_signature : (after (.configRead 0 (List.replicate 64 0xFF)) State.reset).ldr.fault = .signature := by
  decide +kernel
theorem test_bootEnd_halted : (after (.bootEnd 5000000)
    (after (.configRead 0 (List.replicate 64 0xFF)) State.reset)).ctl.st = .halted := by decide +kernel
theorem test_sleep_departs : (after (.sleep 0) base).bus.q.leave = some { payload := [1], fails := 0, epoch := none } := by
  decide +kernel
theorem test_departure_sleeps : (after (.departureEntry 0) (leaving .sleep true 1000000000)).ctl.st = .sleep := by decide +kernel
theorem test_heat_overheats : (after (.departureEntry 0) (leaving .heat true 1000000000)).ctl.st = .overheat := by decide +kernel
theorem test_standby_entered : (after (.standbyReceived 0 rx) (hearing base)).ctl.st = .standby := by decide +kernel
theorem test_standby_departing_noAdoption :
    let s := hearing (withPeer .member (peerAt .member none))
    (after (.standbyReceived 0 ahead) { s with ctl := (leaving .sleep false 1000000000).ctl }).grp.epoch = s.grp.epoch ∧
      (after (.standbyReceived 0 ahead) { s with scan := (scanning 0).scan }).grp.epoch ≠ s.grp.epoch := by decide +kernel
theorem test_standby_keepsLead :
    (after (.standbyReceived 0 rx) (hearing { locked with grp := { locked.grp with groupLead := 2 } })).grp.groupLead = 2 := by
  decide +kernel
theorem test_configPort_held : (after (.resetPinAssert 0) base).configPort = .idle ∧ State.reset.configPort = .readsImage := by
  decide +kernel
theorem test_source_wakes : (after (.markStart 0 1) standby).ctl.st = .run := by decide +kernel
theorem test_window_failsafe : (after (.noticeFormError { moment := 0, tail := ⟨true, 1⟩ }) (asleep (.window 999999000) .receiving 3)).ctl.wakeCause = .failsafe := by
  decide +kernel
theorem test_warm_set : (after (.temperatureReading 0 100) base).ctl.warm = true ∧
    (after (.temperatureReading 0 99) base).ctl.warm = false := by decide +kernel
theorem test_identify_starts : (after (.identify 0) { base with port := { base.port with arg := 60 } }).ovl.identifyUntil =
    61000000000 := by decide +kernel
theorem test_identify_refused : (after (.identify 0) { base with port := { base.port with arg := 61 } }).port.cmdRefused = true := by
  decide +kernel
theorem test_count_waits : (after (.countReceived 0 rx 1) (hearing base)).lag.actions =
    [{ effective := 2, freeze := some true, clear := false }] := by decide +kernel
theorem test_wrap_flags : (raise .linesIn { base with
    lag := { base.lag with c0 := { base.lag.c0 with value := BitVec.allOnes 40, select := 1 } } }).lag.ovf = 1#7 := by decide +kernel
theorem test_map_partCode : base.portBytes.length = 256 ∧ base.liveByte 0x00 = 0x76 ∧ base.liveByte 0x01 = 0x01 := by decide +kernel
theorem test_flagWrite_clears : (after (.flagClearWrite 0 false 0x05) { base with port := { base.port with flags := 0x7FF } }).port.flags =
    0x7FA#11 := by decide +kernel
theorem test_builtInProfiles :
    (List.range 8).map (fun k =>
      let p := builtIn k
      [p.w, p.h, p.period * 10, p.minPeriod * 10, p.cold * 10, p.hot * 10, p.delay, p.coldStrobe, p.hotStrobe]) =
    [[1920, 1080, 7400, 8100, 16600, 16000, 6000, 1500, 1000],
     [1920, 1200, 6900, 8400, 16600, 16000, 6500, 1500, 1000],
     [1920, 1080, 4600, 8100, 33300, 25000, 3500, 1000, 700],
     [1280, 720, 11000, 8100, 16600, 16000, 0, 0, 0],
     [1366, 768, 10200, 8100, 33300, 20000, 0, 0, 0],
     [1600, 900, 8800, 8100, 16600, 12000, 6500, 1200, 800],
     [1024, 768, 13000, 10100, 33300, 25000, 0, 0, 0],
     [1920, 540, 14800, 8100, 16600, 16000, 7000, 900, 600]] := by decide +kernel

/-! ### The hypotheses of the obligations can be met

One theorem for each obligation with hypotheses: for each clause a state and operands that meet them together, at the
boundary where the clause has one. -/

/-- The command answers a next state. -/
def completes (i : Instr) (s : State) : Bool :=
  match exec i s with
  | .next _ => true
  | _ => false

/-- The state after one step. -/
def stepped (s : State) : Option State :=
  match step s with
  | .next s' => some s'
  | _ => none

theorem test_witness_EmptyQueueAndClock :
    ((asleep .waiting .off 0).pending = [] ∧ (asleep .waiting .off 0).ownStep = none) ∧
    (let s := { locked with src := { locked.src with frameOpen := false, fill := some { row := 1, serial := 7, held := false } } }
     s.pending = [] ∧ s.ownStep.isSome = true) ∧ completes (.wakeHoldoffExpiry 0) base = true := by decide +kernel

def offState (low : Bool) : State := { base.at .outside with ctl := { Ctl.reset with st := .off, resetCause := .none, resetLow := low } }

theorem test_witness_ResetsBeginBoot :
    base.responding = true ∧
    (let s := { State.reset with ctl := { Ctl.reset with held := true, resetLow := true } }
     s.ctl.held = true ∧ s.ctl.resetLow = true) ∧
    ((offState false).ctl.st = .off ∧ (offState false).ctl.resetLow = false) ∧
    base.ctl.st ≠ .off ∧ ((offState true).ctl.st = .off ∧ (offState true).ctl.resetLow = true) := by decide +kernel

/-- An image of built-in profile 0 at the picture's corner, with one substitution slot and a right check. -/
def image (version col leftHigh field hi lo : Byte) : List Byte :=
  let head : List Byte := [0x5A, 0x4B, version, col, 0, leftHigh, 0, 0, 0, 0, 3, 1, 0, 0, 0, field, hi, lo]
  let body := head ++ [0x0F, 0, 0, 0, 0x0F, 0, 0, 0] ++ List.replicate 36 0
  let c := crc16 0xFFFF#16 body
  body ++ [c.extractLsb' 8 8, c.extractLsb' 0 8]

/-- Which of the eight checks of R183 an image passes. -/
def checks (im : List Byte) : List Bool :=
  let p := (substitute im).profile
  [imageByte im 0 = 0x5A ∧ imageByte im 1 = 0x4B, imageByte im 2 = 1,
   (crc16 0xFFFF#16 (im.take 62)).toNat = imageWord im 62, fieldsInRange im = true, p.withinLimits = true,
   imageWord im 5 + p.w ≤ 8192 ∧ imageWord im 7 + p.h ≤ 4095, p.h * (p.period * 10) + 100000 ≤ p.minPeriod * 10000,
   (p.delay + max p.coldStrobe p.hotStrobe) * 1000 ≤ p.h * (p.period * 10)]

theorem test_witness_ConfigReadChecked :
    (State.reset.ctl.st = .boot ∧ State.reset.ctl.held = false ∧ State.reset.ldr.imageRead = false) ∧
    (checks (List.replicate 64 0xFF)).head? = some false ∧
    (checks (image 2 0 0 9 0 0)).take 2 = [true, false] ∧
    (checks ((image 1 0 0 9 0 0).take 62 ++ [0, 0])).take 3 = [true, true, false] ∧
    (checks (image 1 4 0 9 0 0)).take 4 = [true, true, true, false] ∧
    (checks (image 1 0 0 0 0x07 0x81)).take 5 = [true, true, true, true, false] ∧
    (checks (image 1 0 0x18 0 0x07 0x80)).take 6 = [true, true, true, true, true, true] ∧
    (checks (image 1 0 0x19 0 0x07 0x80)).take 6 = [true, true, true, true, true, false] ∧
    (checks (image 1 0 0 2 0x02 0xEF)).take 7 = [true, true, true, true, true, true, false] ∧
    checks (image 1 0 0 6 0x19 0x5D) = [true, true, true, true, true, true, true, false] ∧
    checks (image 1 0 0 6 0x19 0x5C) = [true, true, true, true, true, true, true, true] := by decide +kernel

def booting (fault : FaultCode) : State :=
  { State.reset with ldr := { image := image 1 0 0 9 0 0, imageRead := true, fault := fault, applied := 0, ignored := 1 } }

theorem test_witness_BootEnds :
    (booting .none).ctl.st = .boot ∧ (booting .none).ctl.held = false ∧ (booting .none).ldr.imageRead = true ∧
      (booting .none).ctl.bootFrom + 5 * ms ≤ (booting .none).momentOf 5000000 ∧
      (booting .none).grp.membership = .outside ∧ (booting .none).bus.engine = .off ∧
      (booting .none).ldr.fault = .none ∧ (booting .strobe).ldr.fault ≠ .none := by decide +kernel

theorem test_witness_FsMovesLockAndAdmits :
    locked.ctl.st = .run ∧ locked.src.lateMark = false ∧ locked.src.line = none ∧ (fs 1).head? = some 0x01#8 ∧
      (readFs (fs 1)).map (fun m => (m.width, m.height)) = some (locked.src.width, locked.src.height) ∧
      locked.src.lock = .locked ∧ (readFs [0x01]) = none ∧
      ({ locked with src := { locked.src with lock := .locking } } : State).src.lock = .locking ∧
      (let s := counting 2 { lining unfinished with src := { (lining unfinished).src with fails := 6 } }
       s.src.line.isSome = true ∧ s.queueFits = true ∧ s.lag.runsFree = true ∧ s.lag.c0.select = 2 ∧ s.src.fails < 7 ∧
         (readFs [0x01, 1, 0, 0x40, 0, 0x41, 1]).map (fun m => m.height == s.src.height) = some false) ∧
      7 ≤ ({ locked.src with fails := 7 } : Src).fails ∧
      (let s := withPeer .member { peerAt .member none with heard := 62 }
       s.tablesWf = true ∧ s.peer 3 = some { peerAt .member none with heard := 62 } ∧ 62 + 1 < 64 ∧ 64 ≤ 63 + 1 ∧
         s.peer 4 = none ∧ ({ s with grp := { s.grp with epoch := 4 } } : State).ctl.station.toNat % 4 = (4#8 + 1).toNat % 4) := by
  decide +kernel

theorem test_witness_MarkStartAndPayload :
    locked.ctl.st = .run ∧ locked.src.line = none ∧
      (lining { index := 1, claimed := true, crc := 0, count := 4, part := [1] }).src.line =
        some { index := 1, claimed := true, crc := 0, count := 4, part := [1] } ∧ ([1] : List Byte).length ≠ 2 ∧
      (lining { index := 1, claimed := true, crc := 0, count := 5, part := [1, 2] }).src.line =
        some { index := 1, claimed := true, crc := 0, count := 5, part := [1, 2] } := by decide +kernel

theorem test_witness_LsAcceptedInSequence :
    (locked.ctl.st = .run ∧ locked.src.lateMark = false ∧ locked.src.line = none ∧ locked.src.lock = .locked ∧
      locked.src.frameOpen = true ∧ locked.src.raster = none ∧ 0 < locked.src.height) ∧
    (let s := { locked with src := { locked.src with raster := some 62 } }
     ((0#8 ++ 63#8 : BitVec 16).setWidth 12).toNat < s.src.height ∧ s.src.raster.all (fun p => decide (p < 63)) = true ∧
       ¬ ((0#8 ++ 64#8 : BitVec 16).setWidth 12).toNat < s.src.height ∧
       s.src.raster.all (fun p => decide (p < 62)) = false) ∧
    (([0x02, 0] : List Byte).head? = some 0x02#8 ∧ ([0x02, 0] : List Byte).length ≠ 3 ∧
      ([0x02, 0, 1, 2] : List Byte).length ≠ 3) ∧
    (let s := lining unfinished
     s.ctl.st = .run ∧ s.src.lateMark = false ∧ s.src.lock = .locked ∧ s.src.frameOpen = true ∧ s.src.line = some unfinished ∧
       s.queueFits = true ∧ ¬ 8 ≤ s.src.fails + 1) := by decide +kernel

theorem test_witness_LineCheckJudged :
    (let s := { lining { index := 63, claimed := true, crc := 5, count := 192, part := [] } with
       lq := { locked.lq with ring := [slot .waiting 7 1, slot .filling 7 2] } }
     s.ctl.st = .run ∧ s.src.lock = .locked ∧ s.src.frameOpen = true ∧ s.src.line.isSome = true ∧ s.queueFits = true) ∧
    (let s := lining { index := 0, claimed := false, crc := 5, count := 191, part := [] }
     s.queueFits = true ∧ s.src.line.isSome = true) := by decide +kernel

theorem test_witness_SilenceBecomesSilent :
    (locked.ctl.st = .run ∧ locked.src.lock ≠ .silent ∧
      passed locked.src.silenceFrom (200 * ms) (locked.momentOf 1199000000) = true ∧
      passed locked.src.silenceFrom (200 * ms) (locked.momentOf 1198999999) = false ∧ locked.src.lock = .locked) ∧
    base.src.lock ≠ .silent ∧ base.src.lock ≠ .locked := by decide +kernel

theorem test_witness_GateCloseAndOwnLead :
    (let s := { locked with src := { locked.src with gateFrom := some 1000000000, running := 16 } }
     passed s.src.gateFrom (1024 * us) (s.momentOf 1001024000) = true ∧
       passed s.src.gateFrom (1024 * us) (s.momentOf 1001023999) = false) ∧
    1024000 ≤ 4000 * 256 ∧ 4000 * 255 < 1024000 := by decide +kernel

def filling (n : Nat) : State :=
  { locked with
    src := { locked.src with frameOpen := false, fill := some { row := 2, serial := 7, held := false } }
    lq := { locked.lq with ring := List.replicate n (slot .waiting 7 1) } }

theorem test_witness_FillLineQueued :
    ((filling 47).ctl.st = .run ∧ (filling 47).src.fill.isSome = true ∧ (filling 47).lq.ring.length < 48) ∧
    48 ≤ (filling 48).lq.ring.length := by decide +kernel

theorem test_witness_WriterMovesRows :
    (let s := withQueue [slot .waiting 7 2] .idle none
     s.lq.ring = [slot .waiting 7 2] ∧ (slot .waiting 7 2).phase = .waiting ∧ s.lq.writer = .idle) ∧
    (withQueue [slot .waiting 7 2] .held none).lq.writer = .held ∧
    (let s := withQueue [slot .writing 7 2] .transfer none
     s.lq.writer = .transfer ∧ s.lq.staging = none) ∧
    (let s := { scanning 2 with lq := (withQueue [slot .writing 7 2] .staged (some [1, 2])).lq }
     s.lq.staging = some [1, 2] ∧ (slot .writing 7 2).phase = .writing ∧
       s.scan.prog.all (fun p => (7 : Serial) == p.serial || decide (2 < p.q)) = true ∧ s.tablesWf = true ∧
       s.src.fill.any (·.held) = false) ∧
    (let s := { scanning 2 with lq := (withQueue [slot .writing 8 2] .transfer (some [1, 2])).lq }
     s.lq.staging.isSome = true ∧ s.scan.prog.all (fun p => (8 : Serial) == p.serial || decide (2 < p.q)) = false) ∧
    (let f : Fill := { row := 2, serial := 7, held := true }
     ({ filling 48 with src := { (filling 48).src with fill := some f } } : State).src.fill = some f ∧ f.held = true ∧
       (List.replicate 47 (slot .waiting 7 1)).length < 48) := by decide +kernel

theorem test_witness_IdlePassAndStrobe :
    (base.ctl.st = .run ∧ base.scan.lastStart = none ∧ base.scan.idlePass = none) ∧
    (base.inState .halted).ctl.st = .halted ∧
    (let s := { base with scan := { base.scan with idlePass := some 1000000000 } }
     s.scan.idlePass.all (fun b => decide (b + s.cfg.profile.h * s.scan.active.period ≤ s.momentOf 1000012000)) = true ∧
       s.scan.idlePass.all (fun b => decide (b + s.cfg.profile.h * s.scan.active.period ≤ s.momentOf 1000011999)) = false) ∧
    (let s := { base with scan := { base.scan with strobe := .scheduled 1000005000 } }
     s.scan.strobe = .scheduled 1000005000 ∧ 1000005000 ≤ s.momentOf 1000005000) ∧
    (let s := { base with scan := { base.scan with strobe := .on 1000007000 } }
     s.scan.strobe = .on 1000007000 ∧ 1000007000 ≤ s.momentOf 1000007000) ∧
    (let o : Ovl := { identifyUntil := 0, latched := some (5, .m), drawn := true }
     o.drawn = true ∧ o.latched = some (5, .m) ∧ Ovl.reset.drawn = false ∧ StationState.run ≠ .halted ∧
       ((240 : Int) - 240).fdiv 2 ≤ 0 ∧ ((239 : Int) - 240).fdiv 2 = -1 ∧ ¬ (240 : Int) < 0 + 240) := by decide +kernel

/-- A frame waits and its raster condition has just come to hold. -/
def ready (running : Bool) : State :=
  { locked with src := { locked.src with raster := some 3 }
                scan := { locked.scan with lastStart := some 991900000 }
                judged := { standby := false, period := running } }

theorem test_witness_NewFrameScanStarts :
    (let w : Waiting := { serial := 7, admittedAt := 999999000, ended := false }
     (ready true).mayScan = true ∧ (ready true).scan.st = .wait ∧ (ready true).scan.waiting = some w ∧
       (ready true).periodOver ((ready true).momentOf 0) = true ∧ (ready true).rasterReached w = true ∧
       (ready true).scan.holdInUse = (ready true).ownHold ∧ (ready true).judged.period = true ∧
       (ready false).judged.period = false ∧ (ready true).scan.owed = false ∧
       ({ ready true with src := { locked.src with raster := some 2 } } : State).rasterReached w = false) ∧
    (base.mayScan && base.scan.st == .wait && base.periodOver (base.momentOf 0) && base.scan.waiting.any base.rasterReached) = false := by
  decide +kernel

/-- In the hold period of frame 6, started `d` ns ago. -/
def holding (m : Membership) (d : Nat) (owed : Bool) : State :=
  { base.at m with scan := { base.scan with st := .hold, shown := some 6, lastStart := some (1000000000 - d), owed := owed }
                   judged := { standby := false, period := true } }

theorem test_witness_RepeatScansStart :
    (let s := holding .member 8100000 true
     s.repeatable = true ∧ s.scan.shown = some 6 ∧ s.scan.lastStart = some 991900000 ∧ s.scan.owed = true ∧
       s.periodOver (s.momentOf 0) = true ∧ (holding .member 8099999 true).periodOver 1000000000 = false ∧
       s.scan.holdInUse = s.ownHold) ∧
    (let s := holding .listening 15700000 false
     s.repeatable = true ∧ s.grp.membership.groupOfOne = true ∧
       984300000 + (s.scan.holdInUse * 10000 - 300000) ≤ s.momentOf 0) ∧
    (let s := holding .listener 15980000 false
     s.repeatable = true ∧ 984020000 + (s.scan.holdInUse * 10000 - 20000) ≤ s.momentOf 0) ∧
    (let s := holding .member 15700000 false
     s.repeatable = true ∧ s.grp.membership = .member ∧ s.scan.repeatMark = false ∧
       984300000 + (s.grp.groupHold * 10000 - 300000) ≤ s.momentOf 0) ∧
    (let s := counting 15 (holding .member 15980000 false)
     s.repeatable = true ∧ s.lag.runsFree = true ∧ s.lag.c0.select = 15 ∧ s.grp.outOfStep = false ∧
       984020000 + (s.scan.holdInUse * 10000 - 20000) ≤ s.momentOf 0) ∧
    (let d : Departure := { reason := .supply, queuedAt := 0, leaveEnded := true, decided := true }
     let s := { holding .member 15700000 false with ctl := { base.ctl with departure := some d } }
     s.ctl.st = .run ∧ s.scan.st = .hold ∧ s.ctl.departure.any (·.decided) = true ∧ s.grp.membership = .member ∧
       s.scan.repeatMark = false ∧ s.scan.lastStart = some 984300000) := by decide +kernel

theorem test_witness_RowIsRead :
    (let s := scanning 2
     s.tablesWf = true ∧ s.scan.prog = some { serial := 7, q := 2 } ∧ 2 < s.cfg.profile.h ∧
       s.scan.lastStart = some 1000000000 ∧ 1000000000 + 2 * s.scan.active.period ≤ s.momentOf 1000008000 ∧
       (s.mem.entry 2).serial = none) ∧
    (let s := { scanning 0 with mem := { tile := [(0, [1, 2])], map := [(0, { serial := some 6, stale := false })] } }
     s.tablesWf = true ∧ (s.mem.entry 0).serial.isSome = true ∧ Sparse.get s.mem.tile 0 = some [1, 2] ∧ s.scan.st = .scan) := by
  decide +kernel

theorem test_witness_ScanEnds :
    (scanning 3).scan.prog = some { serial := 7, q := 3 } ∧ (scanning 3).scan.lastStart = some 1000000000 ∧
      1000000000 + (scanning 3).cfg.profile.h * (scanning 3).scan.active.period ≤ (scanning 3).momentOf 1000012000 ∧
      (scanning 3).ctl.standbyPending = false ∧
      (let s := { scanning 3 with ctl := { (scanning 3).ctl with standbyPending := true } }
       s.ctl.standbyPending = true ∧ s.intakeFits = true ∧ s.ctl.st = .run) ∧
      (let s := scanning 3
       ({ s with scan := { s.scan with st := .rescan } } : State).scan.prog.isSome = true ∧ s.scan.st = .scan) := by decide +kernel

theorem test_witness_MinPeriodPasses :
    (let s := holding .member 8100000 true
     s.ctl.st = .run ∧ s.judged.period = true ∧ s.scan.prog = none ∧ s.scan.lastStart.isSome = true ∧
       s.periodOver (s.momentOf 0) = true ∧ s.scan.shown = some 6 ∧ s.repeatable = true ∧ s.scan.owed = true ∧
       s.scan.holdInUse = s.ownHold) ∧
    (let s := ready true
     s.mayScan = true ∧ s.scan.owed = false ∧ s.scan.st = .wait ∧ s.scan.waiting.any s.rasterReached = true ∧
       s.scan.shown = some 6 ∧ s.scan.prog = none ∧ s.scan.lastStart.isSome = true) ∧
    (let s := holding .member 8100000 false
     (s.scan.owed && s.repeatable) = false ∧
       (s.mayScan && !s.scan.owed && s.scan.st == .wait && s.scan.waiting.any s.rasterReached) = false) := by decide +kernel

/-- A notice waits in a slot on an idle bus. -/
def queued (k : Kind) (payload : List Byte) : State := queueNotice k payload none base

def waking : State :=
  { base with
    bus := { base.bus with
      engine := .wakeSend
      reg := some { kind := .wake, notice := { payload := [0, 1], fails := 0, epoch := none }, epoch := 0, withdrawn := false,
                    startedAt := 999724000, bits := [] } } }

theorem test_witness_AttemptStarts :
    (let s := queued .leave [1]
     s.bus.engine = .idle ∧ s.driverEnabled = true ∧ s.bus.holdoff = none ∧ s.bus.reg = none ∧
       s.bus.q.get .leave = some { payload := [1], fails := 0, epoch := none } ∧
       Kind.all.all (fun j => decide (Kind.leave.code ≤ j.code) || (s.bus.q.get j).isNone) = true) ∧
    (let s := queued .wake [0, 1]
     s.driverEnabled = true ∧ (s.bus.q.get .wake).isSome = true ∧
       Kind.all.all (fun j => decide (Kind.wake.code ≤ j.code) || (s.bus.q.get j).isNone) = true) ∧
    (waking.bus.engine = .wakeSend ∧ waking.bus.reg.map (·.kind) = some .wake ∧ 999724000 + 276000 ≤ waking.momentOf 0) ∧
    (base.at .listener).driverEnabled = false ∧ (base.at .listener).bus.engine = .idle ∧
    (sending .member .rep [] 0).bus.reg.isSome = true ∧ (sending .member .rep [] 0).bus.engine = .sending ∧
    ({ base with bus := { base.bus with engine := .waitIdle } } : State).bus.engine = .waitIdle := by decide +kernel

theorem test_witness_ArbitrationGivesWay :
    (let s := sending .member .leave [1] 0
     let bits := noticeBits 3 5 0 [1]
     s.bus.engine = .sending ∧ s.bus.reg.map (·.bits) = some bits ∧ bits[8]? = some true ∧
       8 < stationFieldEnd 3 5 ∧ s.stopsGroup .arbLosses = false ∧ Kind.leave.plain = true) ∧
    (waking.bus.engine = .wakeSend ∧ waking.bus.reg.map (·.kind) = some .wake) := by decide +kernel

theorem test_witness_FailedAttempts :
    (let s := sending .member .leave [1] 1
     s.bus.engine = .sending ∧ (s.bus.reg.bind fun r => r.bits[0]?) = some false ∧ Kind.leave.plain = true ∧
       s.stopsGroup .noticeErrors = false ∧ s.stopsGroup .noticesSent = false ∧ decide (1 + 1 < 3) = true) ∧
    ((sending .member .rep [] 0).bus.reg.bind fun r => r.bits[0]?) = some false ∧ 0 < base.bus.bitTime ∧
    (0x3F#7 ≠ 0x7F#7 ∧ (sending .member .wake [0, 1] 2).bus.reg.map (·.notice.fails) = some 2) ∧
    (let s := sending .member .count [1] 2
     s.stopsGroup .noticesSent = false ∧
       ({ s with lag := s.lag.take .noticesSent } : State).stopsGroup .retriesExhausted = false ∧
       (s.bus.reg.bind fun r => r.bits[0]?) = some false) ∧
    (sending .member .leave [1] 2).bus.reg.map (·.notice.payload) = some [1] ∧
    (sending .member .status [0, 0, 0, 0] 2).grp.membership.active = true ∧
    (sending .alone .status [0, 0, 0, 0] 2).grp.membership.active = false ∧
    (let s := { sending .member .standby [] 2 with ctl := { base.ctl with silentFrom := some 800000000 } }
     s.standbyHolds = true ∧ (sending .member .standby [] 2).standbyHolds = false ∧ s.judged.standby = false) ∧
    (let s := sending .joining .join [0, 0, 0, 0, 0, 0, 0] 2
     s.bus.reg.map (fun r => (r.kind, r.notice.fails)) = some (.join, 2) ∧ s.grp.membership = .joining) := by decide +kernel

theorem test_witness_CompletionsActByKind :
    (let s := sending .joining .join [0, 0, 0, 0, 0, 0, 0] 0
     s.bus.reg.map (·.kind) = some .join ∧ s.bus.engine = .sending ∧ s.grp.membership = .joining) ∧
    (let s := sending .refused .refuse [0x31] 0
     s.bus.reg.map (fun r => (r.kind, r.notice.payload)) = some (.refuse, [0x31]) ∧ s.grp.membership.keepsTable = true ∧
       s.tablesWf = true) ∧
    (counting 10 (sending .member .wake [0, 1] 0)).lag.runsFree = true ∧
    (let a : Ann := { lead := 3, flags := base.ownFlags, hold := 1600 }
     let s := sending .member .status (beBytes 4 a.encode.toNat) 0
     s.bus.reg.map (fun r => (r.kind, r.notice.payload, r.epoch)) = some (.status, beBytes 4 a.encode.toNat, s.grp.epoch)) ∧
    (sending .member .leave [1] 0).bus.reg.map (fun r => (r.kind, r.notice.payload)) = some (.leave, [1]) ∧
    (sending .member .wake [0, 1] 0).bus.reg.map (·.kind) = some .wake ∧
    (sending .member .ident [60] 0).bus.reg.map (fun r => (r.kind, r.notice.payload, r.withdrawn)) = some (.ident, [60], false) ∧
    (let s := sending .member .count [1] 0
     s.bus.reg.map (fun r => (r.kind, r.notice.payload, r.epoch)) = some (.count, [1], s.grp.epoch) ∧ s.bus.q.count = none ∧
       s.lag.actions = [] ∧ s.ctl.st = .run ∧ s.stopsGroup .noticesSent = false ∧ CountAction.freeze.byte = 1) ∧
    (let s := { holding .member 8100000 false with bus := (sending .member .rep [] 0).bus }
     s.bus.reg.map (fun r => (r.kind, r.epoch)) = some (.rep, s.grp.epoch) ∧ s.scan.prog = none ∧ s.scan.shown = some 6 ∧
       s.grp.membership.keepsTable = true) ∧
    (let s := { holding .member 8100000 false with
       bus := (sending .member .rep [] 0).bus, grp := { base.grp with epoch := 9 } }
     (s.bus.reg.map fun r => r.epoch == s.grp.epoch || r.epoch == s.grp.epoch - 1) = some false) ∧
    (let s := sending .member .standby [] 0
     s.ctl.departure = none ∧ s.scan.prog = none ∧ s.intakeFits = true) ∧
    (let s := { scanning 0 with bus := (sending .member .standby [] 0).bus }
     s.bus.reg.map (·.kind) = some .standby ∧ s.scan.prog.isSome = true) ∧
    (leaving .sleep false 1000000000).ctl.departure.isSome = true := by decide +kernel

theorem test_witness_DiscardedNotices :
    ((hearing base).hears = true ∧ (hearing base).inDecodeWindow = false ∧ patternOk 8000 8000 20001 = false ∧ patternOk 7999 8000 8000 = false) ∧
    (let s := { base with bus := { base.bus with holdoff := some 1002000000 } }
     s.bus.holdoff = some 1002000000 ∧ 1002000000 ≤ s.momentOf 1002000000) ∧
    (let s := { base with bus := { base.bus with engine := .waitIdle, recessiveFrom := some 999991500 } }
     s.bus.engine = .waitIdle ∧ passed s.bus.recessiveFrom (17 * s.bus.bitTime / 2) (s.momentOf 0) = true ∧
       passed (some 999991501) (17 * s.bus.bitTime / 2) (s.momentOf 0) = false) ∧
    (0x3F#7 ≠ 0x7F#7 ∧ 0x3F#7 ≠ 0#7) := by decide +kernel

theorem test_witness_DriverMuted :
    (let s := { sending .member .leave [1] 0 with bus := { (sending .member .leave [1] 0).bus with muteAges := [255] } }
     s.driverEnabled = true ∧ s.bus.muteAges.length < 2 ∧ s.bus.reg.isSome = true) ∧
    (let s := { base with bus := { base.bus with muteAges := [255, 0] } }
     s.driverEnabled = true ∧ 2 ≤ s.bus.muteAges.length ∧ s.grp.membership = .member) ∧
    (let s := { base with bus := { base.bus with mute := .muted, recessiveFrom := some 999800000, muteFrom := some 999800000 } }
     s.bus.mute = .muted ∧ s.bus.engine = .idle ∧ passed s.bus.recessiveFrom 200000 (s.momentOf 0) = true ∧
       passed s.bus.muteFrom 200000 (s.momentOf 0) = true ∧ s.driverEnabled = false) ∧
    (let s := { base.at .alone with bus := { base.bus with muteAges := [255, 0], engine := .lost } }
     s.driverEnabled = true ∧ s.grp.membership = .alone) := by decide +kernel

theorem test_witness_BusLostAndRecovered :
    (let s := { hearing base with bus := { (hearing base).bus with runFrom := some 999800000 } }
     s.bus.engine = .receiving ∧ passed s.bus.runFrom 200000 (s.momentOf 0) = true ∧ s.inDecodeWindow = false) ∧
    (let s := { base.at .alone with bus := { base.bus with engine := .lost, recessiveFrom := some 999800000 } }
     s.bus.engine = .lost ∧ passed s.bus.recessiveFrom 200000 (s.momentOf 0) = true ∧ s.grp.membership = .alone ∧
       s.grp.dupLatch = false ∧ s.bus.mute ≠ .permanent) ∧
    (let s := asleep (.window 999000000) .waitIdle 1
     s.ctl.st = .sleep ∧ s.ctl.det = .window 999000000 ∧ s.grp.membership = .outside ∧ s.bus.engine = .waitIdle ∧
       passed s.bus.runFrom 200000 (s.momentOf 0) = true) := by decide +kernel

theorem test_witness_RepeatJudged :
    (let s := hearing (holding .member 8100000 false)
     s.takesFrom rx = true ∧ s.ctl.st = .run ∧ s.grp.membership ≠ .outside ∧ s.grp.membership ≠ .alone ∧
       s.scan.shown = some 6 ∧ (rx.epoch == s.grp.epoch && s.scan.prog.isNone) = true) ∧
    (let s := hearing { locked with grp := { locked.grp with epoch := 1, admMark := some 7 } }
     s.takesFrom rx = true ∧ (rx.epoch == s.grp.epoch - 1 && s.scan.st == .wait && s.grp.admMark.isSome &&
       s.grp.admMark == s.scan.waiting.map (·.serial)) = true ∧ s.scan.shown = some 6) ∧
    (let s := { hearing base with bus := { (hearing base).bus with startEpoch := 4 } }
     let h := { rx with epoch := 3 }
     s.takesFrom h = true ∧ (h.epoch == s.grp.epoch) = false ∧ (h.epoch == s.grp.epoch - 1) = false ∧
       h.epoch + 1 = s.bus.startEpoch ∧ s.repeatable = false ∧ s.knownAwake h.sender = true) ∧
    (let s := counting 15 (hearing (withPeer .member (peerAt .member none)))
     let h := { rx with epoch := 3 }
     s.takesFrom h = true ∧ s.knownAwake h.sender = true ∧ s.tablesWf = true ∧ h.epoch + 1 ≠ s.bus.startEpoch ∧
       (h.epoch == s.grp.epoch) = false ∧ (h.epoch == s.grp.epoch - 1) = false ∧ s.follows h.sender = true ∧
       s.lag.runsFree = true ∧ s.lag.c0.select = 15) := by decide +kernel

theorem test_witness_RefuseAndLeaveHeard :
    (hearing (withPeer .refused (peerAt .member none))).takesFrom rx = true ∧
      rx.epoch = (hearing (withPeer .refused (peerAt .member none))).bus.startEpoch ∧
      (withPeer .refused (peerAt .member none)).grp.membership.keepsTable = true ∧
      ((0x51#8).extractLsb' 4 4).toNat = base.ctl.station.toNat ∧ ((0x31#8).extractLsb' 4 4).toNat ≠ base.ctl.station.toNat := by
  decide +kernel

theorem test_witness_JoinRenewsEntry :
    (let s := hearing (withPeer .member (peerAt .pending (some 1008000000)))
     s.takesFrom rx = true ∧ rx.epoch = s.bus.startEpoch ∧ s.grp.membership.keepsTable = true ∧ (s.peer 3).isSome = true) ∧
    base.peer 3 = none := by decide +kernel

theorem test_witness_StatusAnnounces :
    (let s := hearing (withPeer .listener (peerAt .pending (some 1008000000)))
     s.takesFrom rx = true ∧ rx.epoch = s.bus.startEpoch ∧ s.grp.membership.keepsTable = true ∧
       (s.peer 3).all (fun p => p.state != .silent) = true ∧ (s.peer 3).isSome = true) ∧ base.peer 3 = none := by decide +kernel

theorem test_witness_StandbyAndWakeHeard :
    (let s := hearing base
     s.takesFrom rx = true ∧ rx.epoch = s.bus.startEpoch ∧ s.intakeFits = true ∧ s.ctl.st = .run ∧ s.ctl.departure = none ∧
       s.scan.prog = none ∧ s.knownAwake rx.sender = true) ∧
    (let s := hearing (scanning 0)
     s.takesFrom rx = true ∧ s.scan.prog.isSome = true ∧ s.intakeFits = true ∧ rx.epoch = s.bus.startEpoch) ∧
    (let s := { hearing (withPeer .member (peerAt .member none)) with ctl := (leaving .sleep false 1000000000).ctl }
     s.takesFrom ahead = true ∧ s.intakeFits = true ∧ s.ctl.departure.isSome = true ∧ s.inDecodeWindow = false ∧
       ahead.epoch ≠ s.bus.startEpoch ∧ s.follows ahead.sender = true ∧ s.knownAwake ahead.sender = true ∧
       s.grp.membership.keepsTable = true) ∧
    (let s := hearing (queueNotice .wake [0, 1] none base)
     s.takesFrom rx = true ∧ s.bus.q.wake.map (·.payload) = some [(1#16).extractLsb' 8 8, (1#16).extractLsb' 0 8] ∧
       (1#16 &&& 3#16) = 1#16 ∧ s.inDecodeWindow = false) ∧
    ((hearing standby).takesFrom rx = true ∧ (hearing standby).intakeFits = true ∧ standby.ctl.st = .standby ∧ standby.ctl.departure = none ∧
      (0x0020#16).getLsbD standby.ctl.station.toNat = true ∧ (0xFFDF#16).getLsbD standby.ctl.station.toNat = false ∧
      standby.src.lock = .silent) := by decide +kernel

theorem test_witness_IdentAndCountNotices :
    (let s := hearing base
     s.takesFrom rx = true ∧ rx.epoch = s.bus.startEpoch ∧ s.ctl.st = .run ∧ rx.epoch + 2 - s.grp.epoch = 2 ∧
       s.lag.frozen = false ∧ s.knownAwake rx.sender = true ∧ s.grp.membership.keepsTable = true ∧ (9 : Byte) ≠ 1) ∧
    standby.ctl.st = .standby ∧
    (let s := { hearing base with grp := { base.grp with epoch := 2 } }
     s.takesFrom rx = true ∧ rx.epoch = s.bus.startEpoch ∧ rx.epoch + 2 - s.grp.epoch = 0) := by decide +kernel

theorem test_witness_AdoptionFollowsSender :
    (let s := counting 15 (hearing (withPeer .member (peerAt .member none)))
     s.takesFrom ahead = true ∧ s.ctl.st = .run ∧ ahead.epoch ≠ s.bus.startEpoch ∧ s.knownAwake ahead.sender = true ∧
       s.tablesWf = true ∧ s.grp.membership.keepsTable = true ∧ s.follows ahead.sender = true ∧
       s.lag.runsFree = true ∧ s.lag.c0.select = 15) ∧
    (let s := hearing (withPeer .refused (peerAt .member none))
     s.takesFrom ahead = true ∧ s.grp.membership.keepsTable = true ∧ s.follows ahead.sender = false) ∧
    (hearing (withPeer .listening (peerAt .member none))).follows ahead.sender = true := by decide +kernel

theorem test_witness_OwnNumberFound :
    (let h := { rx with sender := 5 }
     (hearing base).hears = true ∧ (hearing base).inDecodeWindow = false ∧ h.sender = base.ctl.station ∧ base.grp.membership ≠ .alone ∧
       base.grp.membership ≠ .duplicate) ∧
    (base.at .outside).grp.membership = .outside ∧
    (let s := asleep (.window 999000000) .receiving 1
     s.hears = true ∧ s.ctl.st = .sleep ∧ s.ctl.det = .window 999000000 ∧ s.grp.membership = .outside ∧ s.ctl.temp < 115 ∧
       (0xFFDF#16).getLsbD s.ctl.station.toNat = false ∧ (0x0020#16).getLsbD s.ctl.station.toNat = true ∧
       115 ≤ ({ s with ctl := { s.ctl with temp := 115 } } : State).ctl.temp) ∧
    (let s := sending .member .leave [1] 0
     let bits := noticeBits 3 5 0 [1]
     s.bus.reg.map (·.bits) = some bits ∧ bits[20]? = some true ∧ stationFieldEnd 3 5 ≤ 20) := by decide +kernel

theorem test_witness_MembershipWindowsEnd :
    (let s := { base.at .listening with grp := { (base.at .listening).grp with listenEnd := some 1000000000 } }
     s.grp.membership = .listening ∧ s.grp.listenEnd = some 1000000000 ∧ 1000000000 ≤ s.momentOf 0) ∧
    (let s := { base.at .joining with grp := { (base.at .joining).grp with ownWindowEnd := some 1000000000 } }
     s.grp.membership = .joining ∧ s.grp.ownWindowEnd = some 1000000000) ∧
    (let s := withPeer .member (peerAt .pending (some 1000000000))
     s.peer 3 = some (peerAt .pending (some 1000000000)) ∧ (peerAt .pending (some 1000000000)).state = .pending) ∧
    (let s := hearing (withPeer .member (peerAt .silent none))
     s.takesFrom rx = true ∧ rx.epoch = s.bus.startEpoch ∧ s.grp.membership.keepsTable = true ∧ s.ctl.st = .run ∧
       s.peer 3 = some (peerAt .silent none) ∧ (peerAt .silent none).join.bind (s.checkEntry 3) = none) := by decide +kernel

theorem test_witness_ClashesFound : (fullClash base.ownRecord base.ownRecord).isSome = true ∧
    (peerAt .member none).join.isSome = true ∧ (peerAt .member none).state ≠ .silent ∧ (peerAt .member none).due = none ∧
    (withPeer .joining { peerAt .member none with join := some base.ownRecord }).checkSelf = some .tileTaken ∧
    (withPeer .joining (peerAt .member none)).checkSelf = none ∧
    base.checkEntry 3 base.ownRecord = some .tileTaken ∧ base.checkJoin 3 base.ownRecord = some .tileTaken ∧
    (withPeer .member { peerAt .member none with order := some 2 }).checkEntry 4
      { col := 2, row := 0, top := 1, rows := 3, period := 400, minPeriod := 810 } = some .tileTaken := by
  decide +kernel

theorem test_witness_GroupValuesBounded :
    (base.grp.ownInUse = none ∧ base.src.lock ≠ .locked ∧ base.grp.peers = []) ∧
      (locked.grp.ownInUse = none ∧ locked.src.lock = .locked) ∧
      (let a : Ann := { lead := 2, flags := locked.ownFlags, hold := 1500 }
       (withPeer .member { peerAt .member none with inUse := some a }).leadOfGroup = 2) := by decide +kernel

theorem test_witness_DeparturesBegin :
    (base.ctl.st = .run ∧ base.ctl.departure = none ∧ base.ctl.held = false) ∧
    (let s := { base with ctl := { base.ctl with supplyFrom := some 950000000 } }
     s.ctl.departure = none ∧ passed s.ctl.supplyFrom 50000000 (s.momentOf 0) = true) ∧
    (let s := { leaving .sleep true 999000000 with
       ctl := { (leaving .sleep true 999000000).ctl with supplyFrom := some 950000000 } }
     s.ctl.departure.map (·.reason) = some .sleep ∧ passed s.ctl.supplyFrom 50000000 (s.momentOf 0) = true) ∧
    (leaving .supply false 1).ctl.departure.all (fun d => d.reason != .heat && !d.leaveEnded) = true := by decide +kernel

theorem test_witness_DeparturesEnter :
    (let s := leaving .sleep false 998000001
     s.ctl.departure.isSome = true ∧ s.ctl.st = .run ∧ (998000001 + 2000000 ≤ s.momentOf 0 ↔ False) ∧
       s.intakeFits = true) ∧
    (let s := { leaving .supply true 0 with bus := (sending .member .leave [3] 0).bus }
     s.bus.reg.isSome = true ∧ s.intakeFits = true) ∧
    (let s := leaving .sleep false 998000000
     998000000 + 2000000 ≤ s.momentOf 0 ∧ s.scan.prog = none ∧ s.bus.reg = none ∧ s.grp.membership ≠ .outside) ∧
    (let s := { leaving .sleep true 0 with scan := (scanning 0).scan }
     s.scan.prog.isSome = true) ∧
    (leaving .supply true 0).bus.reg = none ∧ (leaving .heat true 0).ctl.departure.map (·.reason) = some .heat := by decide +kernel

theorem test_witness_SleepWakePath :
    (let s := asleep .waiting .off 0
     s.ctl.st = .sleep ∧ s.ctl.det = .waiting ∧ (patternOk 8000 20000 8000 && decide (8000 + 20000 + 8000 ≤ 1000000)) = true) ∧
    (let s := asleep (.powering 999800000) .off 0
     s.ctl.det = .powering 999800000 ∧ 999800000 + 200000 ≤ s.momentOf 0) ∧
    (let s := asleep (.window 998000000) .receiving 0
     s.ctl.det = .window 998000000 ∧ 998000000 + 2000000 ≤ s.momentOf 0) ∧
    (let s := { asleep .waiting .off 0 with port := { base.port with arg := 16 } }
     s.grp.membership = .outside ∧ s.port.arg.toNat ≤ 16 ∧ s.ctl.temp < 115) ∧
    (let s := { asleep .waiting .off 0 with ctl := { (asleep .waiting .off 0).ctl with temp := 115 } }
     115 ≤ s.ctl.temp) ∧
    (let s := asleep (.window 999000000) .receiving 0
     s.hears = true ∧ rx.sender ≠ s.ctl.station ∧ (0x0020#16).getLsbD s.ctl.station.toNat = true ∧
       (0xFFDF#16).getLsbD s.ctl.station.toNat = false) := by decide +kernel

theorem test_witness_FailsafeWake :
    (let s := asleep (.window 998000000) .receiving 3
     s.ctl.st = .sleep ∧ s.ctl.det = .window 998000000 ∧ s.hears = true ∧ s.grp.membership = .outside ∧ s.ctl.sleepFails < 4 ∧
       patternOk 0 0 0 = false ∧ s.ctl.sleepFails = 3 ∧ s.ctl.temp < 115 ∧ rx.sender ≠ s.ctl.station ∧
       998000000 + 2000000 ≤ s.momentOf 0) ∧
    (asleep (.window 999000000) .receiving 2).ctl.sleepFails < 3 ∧
    (let s := { asleep (.window 998000000) .receiving 3 with
       ctl := { (asleep (.window 998000000) .receiving 3).ctl with temp := 115 } }
     115 ≤ s.ctl.temp ∧ s.ctl.sleepFails = 3) ∧
    (let s' := after (.departureEntry 0) (leaving .sleep true 0)
     completes (.departureEntry 0) (leaving .sleep true 0) = true ∧ s'.ctl.st ≠ .run ∧ s'.ctl.st = .sleep) ∧
    base.responding = true ∧ base.ctl.st ≠ .off ∧ (offState false).ctl.st = .off ∧
    (let s := { State.reset with ctl := { Ctl.reset with held := true, resetLow := true } }
     s.ctl.held = true ∧ s.ctl.resetLow = true) := by decide +kernel

theorem test_witness_MonitorsAct :
    (let s := { base with ovl := { base.ovl with identifyUntil := 1000000000 } }
     s.ovl.identifyUntil ≠ 0 ∧ s.ovl.identifyUntil ≤ s.momentOf 0) ∧
    (base.ctl.st ≠ .off ∧ base.ctl.held = false ∧ base.ctl.st ≠ .overheat ∧ (114 : Int) < 115) ∧
    (let s := { base.at .outside with ctl := { base.ctl with st := .overheat, warm := true, temp := 116 } }
     s.ctl.st = .overheat ∧ s.ctl.held = false ∧ (94 : Int) < 95 ∧ s.grp.membership = .outside) ∧
    (offState false).ctl.st = .off ∧
    (let s := { base.inState .sleep with ctl := { (base.inState .sleep).ctl with temp := 114 } }
     s.ctl.st = .sleep ∧ s.ctl.temp < 115) ∧
    (let s := { base with ctl := { base.ctl with silentFrom := some 800000000 } }
     s.ctl.st = .run ∧ s.ctl.departure = none ∧ s.grp.membership = .member ∧
       passed s.ctl.silentFrom 200000000 (s.momentOf 0) = true ∧
       s.grp.peers.all (fun e => e.2.state != .member || e.2.inUse.any (·.flags.sourceLost)) = true ∧
       s.judged.standby = false) ∧
    (let s := { base with port := { base.port with flags := 4, masks := 6 } }
     s.attn = true ∧ base.attn = false) ∧
    (State.reset.configPort = .readsImage ∧ (offState false).configPort = .undriven ∧ base.configPort = .idle ∧
      ({ State.reset with ldr := { Ldr.reset with imageRead := true } } : State).configPort = .idle ∧
      ({ State.reset with ctl := { Ctl.reset with held := true } } : State).configPort = .idle) := by decide +kernel

theorem test_witness_LocalCommandsTaken :
    (base.responding = true ∧ base.ctl.st ≠ .sleep) ∧
    (let s := asleep .waiting .off 0
     s.ctl.st = .sleep ∧ s.cfg.followWake = false) := by decide +kernel

theorem test_witness_QueuingCommandsTaken :
    (base.ctl.st = .run ∧ base.grp.membership = .member ∧ base.port.arg = 0 ∧ base.ctl.departure = none ∧ base.responding = true) ∧
    (let s := { base with port := { base.port with arg := 60 } }
     1 ≤ s.port.arg.toNat ∧ s.port.arg.toNat ≤ 60) ∧
    ({ base with port := { base.port with arg := 16 } } : State).port.arg.toNat ≤ 16 ∧
    ((base.at .refused).grp.membership = .refused ∧ (base.at .listening).grp.membership = .listening) ∧
    (let s := { standby with port := { standby.port with arg := 6 } }
     let mask : BitVec 16 := if s.port.arg = 0 then 0xFFFF#16 else BitVec.twoPow 16 (s.port.arg.toNat - 1)
     s.ctl.st = .standby ∧ s.port.arg.toNat ≤ 16 ∧ mask.getLsbD s.ctl.station.toNat = true) := by decide +kernel

theorem test_witness_CommandsRefused :
    (base.responding = true ∧ 12 < (13#8).toNat) ∧
    (let s := base.inState .halted
     s.responding = true ∧ ((s.ctl.st == .run || s.ctl.st == .standby) && s.ctl.departure.isNone) = false) ∧
    (let s := { base with port := { base.port with arg := 17 } }
     s.responding = true ∧ 16 < s.port.arg.toNat) ∧
    (let s := base.at .alone
     s.grp.membership ≠ .refused ∧ s.grp.membership ≠ .member ∧ s.grp.membership ≠ .joining ∧ s.grp.membership ≠ .listening) ∧
    ({ base with port := { base.port with arg := 61 } } : State).port.arg.toNat > 60 ∧
    State.reset.ctl.st = .boot ∧ (offState false).ctl.st = .off := by decide +kernel

theorem test_witness_PortWrites :
    (base.responding = true ∧ base.port.holding = none) ∧
    (let s := { base with port := { base.port with holding := some { base := 0x40, bytes := [1, 2, 3, 4, 0] } } }
     s.responding = true ∧ s.port.holding = some { base := 0x40, bytes := [1, 2, 3, 4, 0] } ∧ (0x40, 5, 0) ∈ s.lag.values ∧
       4 + 1 = 5 ∧ 3 + 1 < 5) ∧
    (0x63, 3, 0) ∈ base.lag.values := by decide +kernel

theorem test_witness_PortReads :
    base.responding = true ∧ valueOf (0x00#8).toNat = none ∧ (0x00 : Byte) ≠ 0x74 ∧ (valueOf 0x40).map (·.1) = some 0x40 ∧
      (valueOf 0x44).map (·.1) = some 0x40 ∧
      (let s := { base with port := { base.port with latch := some { base := 0x40, bytes := [1, 2, 3, 4, 5] } } }
       s.port.latch = some { base := 0x40, bytes := [1, 2, 3, 4, 5] }) ∧
      base.port.latch.all (fun l => l.base != 0x40) = true := by decide +kernel

theorem test_witness_CountersFollowEvents :
    (let c : Counter := { Counter.reset with select := 4, qual := .edge, threshold := 48 }
     c.select = 4 ∧ c.qual = .edge ∧ c.qual ≠ .plain ∧ 48 ≤ 48) ∧ (Counter.reset.select ≠ Event.code .linesIn) ∧
    ({ Counter.reset with select := 1 } : Counter).select = Event.code .linesIn ∧
    ({ Counter.reset with select := 5, qual := .threshold } : Counter).qual ≠ .edge ∧
    base.lag.frozen = false ∧ base.lag.wrapAction .linesIn (fun _ => true) = false := by decide +kernel

theorem test_witness_WrapsTakeTheirAction :
    (let s := { base with lag := { base.lag with
       c0 := { base.lag.c0 with value := BitVec.allOnes 40, select := 1, action := .groupStop } } }
     2 ^ 40 ≤ s.lag.c0.value.toNat + s.lag.c0.gain s.lag.frozen .linesIn ∧ s.lag.c0.action ≠ .none ∧
       s.grp.membership = .member) ∧ base.lag.wrapBits .linesIn = 0 := by decide +kernel

theorem test_witness_StandingJudgements :
    completes (.wakeHoldoffExpiry 0) base = true ∧ (after (.wakeHoldoffExpiry 0) base).grp.membership.active = true ∧
      (after (.wakeHoldoffExpiry 0) base).bus.reg.all (fun r => r.kind != .refuse) = true ∧
      (let s' := after (.temperatureReading 0 100) base
       completes (.temperatureReading 0 100) base = true ∧ s'.grp.membership.active = true ∧ base.ownFlags ≠ s'.ownFlags) := by
  decide +kernel

/-- The hypotheses of the seven statements about every step: DriverStaysSafe, QueueStaysInOrder, TablesStayCanonical,
CountsStayInRange, ScanAndMembershipFit, ScansKeepDistance, UnshownRowsChangeByOwnSerial. -/
theorem test_witness_invariants :
    (let s := (sending .member .leave [1] 0).withPending [.attemptEnd 0 false 0x7F]
     s.driveSafe = true ∧ (stepped s).isSome = true) ∧
    (let s := (withQueue [slot .waiting 7 1] .idle none).withPending [.writerTake 0]
     s.queueFits = true ∧ s.intakeFits = true ∧ s.countsFit = true ∧ actionsFit s.grp.epoch s.lag.actions = true ∧
       s.tablesWf = true ∧ (stepped s).isSome = true) ∧
    (let s := (ready true).withPending [.newFrameScanStart 0]
     s.scanFits = true ∧ s.membershipFits = true ∧ s.holdFits = true ∧
       (stepped s).map (fun s' => (s'.scan.lastStart, s.scan.lastStart)) = some (some 1000000000, some 991900000)) ∧
    (let s := (scanning 1).withPending [.wakeHoldoffExpiry 0]
     s.scan.prog = some { serial := 7, q := 1 } ∧ (stepped s).isSome = true) := by decide +kernel

theorem test_witness_picture : PictureKnown base.mem := fun r h => by
  simp [base, State.reset, Mem.reset, Mem.entry] at h

end Sys2Proof.Tests
end

section
/-! PROOFS. The read of a row (R37 to R39, R46, R54, R161): what one `readRow` does to the row map, the scan engine and the
lag meter, and the obligation that says so of the command. -/

namespace Sys2Proof.Machine

/-! ### Counting in a sparse table -/

theorem Sparse.get_of_risesAbove {α : Type} {n k : Nat} (hk : k ≤ n) {t : List (Nat × α)}
    (ht : Sparse.risesAbove (some n) t = true) : Sparse.get t k = none := by
  induction t generalizing n with
  | nil => rfl
  | cons e rest ih =>
    obtain ⟨m, a⟩ := e
    obtain ⟨hm, hrest⟩ := (Sparse.risesAbove_cons _ m a rest).1 ht
    have hkm : k < m := Nat.lt_of_le_of_lt hk (hm n rfl)
    simp [Sparse.get, Nat.ne_of_gt hkm, ih (Nat.le_of_lt hkm) hrest]

/-- Listing `v` under `k` counts `v` in place of what stood there. -/
theorem Sparse.countP_put {α : Type} (f : α → Bool) (k : Nat) (v : α) {b : Option Nat} {t : List (Nat × α)}
    (ht : Sparse.risesAbove b t = true) :
    (Sparse.put k v t).countP (fun e => f e.2) + (if (Sparse.get t k).any f then 1 else 0) =
      t.countP (fun e => f e.2) + (if f v then 1 else 0) := by
  induction t generalizing b with
  | nil => simp [Sparse.put, List.countP_cons]
  | cons e rest ih =>
    obtain ⟨n, a⟩ := e
    obtain ⟨-, hrest⟩ := (Sparse.risesAbove_cons b n a rest).1 ht
    rcases Nat.lt_trichotomy k n with hlt | rfl | hgt
    · have hfree := Sparse.get_of_risesAbove (Nat.le_of_lt hlt) hrest
      simp [Sparse.put, Sparse.get, List.countP_cons, hlt, Nat.ne_of_gt hlt, hfree]
    · simp only [Sparse.put, Sparse.get, List.countP_cons, Nat.lt_irrefl, if_true, if_false, Option.any_some]
      omega
    · have hrec := ih hrest
      simp only [Sparse.put, Sparse.get, List.countP_cons, Nat.not_lt_of_gt hgt, Nat.ne_of_gt hgt, Nat.ne_of_lt hgt,
        if_false]
      omega

/-! ### The STALE marks (R39, R40) -/

theorem Mem.stale_entry (m : Mem) (r : Nat) : (m.entry r).stale = (Sparse.get m.map r).any RowEntry.stale := by
  unfold Mem.entry
  split <;> simp [*]

/-- Setting a row's STALE mark counts one more, unless it was set. -/
theorem Mem.staleCount_setEntry_stale {m : Mem} (hm : m.wf = true) (r : Nat) {e : RowEntry} (he : e.stale = true) :
    (m.setEntry r e).staleCount = m.staleCount + (if (m.entry r).stale then 0 else 1) := by
  have hne : e ≠ { serial := none, stale := false } := by
    rintro rfl
    cases he
  have hmap : Sparse.wf m.map = true := by
    simp only [Mem.wf, Bool.and_eq_true] at hm
    exact hm.1.2
  have hput := Sparse.countP_put RowEntry.stale r e hmap
  simp only [Mem.setEntry, hne, if_false, Mem.staleCount, ← List.countP_eq_length_filter, Mem.stale_entry]
  by_cases hold : (Sparse.get m.map r).any RowEntry.stale = true
  · simpa [he, hold] using hput
  · simpa [he, hold] using hput

/-! ### What an event and the standing judgements do to the lag meter -/

@[simp] theorem settle_lag (b s : State) : (settle b s).lag = s.lag := by rw [(settle_judged b s).1]

@[simp] theorem setOutcome_counts (o : CountOutcome) (s : State) : (setOutcome o s).lag.counts = s.lag.counts := rfl

@[simp] theorem queueCount_counts (a : CountAction) (s : State) : (queueCount a s).lag.counts = s.lag.counts := rfl

/-- The counters take an event, whatever its wrap brings besides. -/
@[simp] theorem raise_counts (e : Event) (s : State) : (raise e s).lag.counts = (s.lag.take e).counts :=
  (whenever_view (fun s : State => s.lag.counts) (queueCount_counts _ _)).trans
    (whenever_view (fun s : State => s.lag.counts) (by simp))

/-! ### The content of a row (R37 to R39) -/

theorem State.rowContent_of_none {s : State} {r : Nat} (h : (s.mem.entry r).serial = none) :
    s.rowContent r = List.replicate s.cfg.profile.w Pixel.black := by
  simp [State.rowContent, h]

theorem State.rowContent_of_listed {s : State} {r : Nat} {px : List Pixel} (h : (s.mem.entry r).serial.isSome = true)
    (hpx : Sparse.get s.mem.tile r = some px) : s.rowContent r = px := by
  simp [State.rowContent, Option.isSome_iff_ne_none.1 h, hpx]

/-! ### The read of a row (R46, R54) -/

/-- The read of the row at `p` is an overtake (R54). -/
def State.overtakes (s : State) (p : Prog) : Bool :=
  s.scan.st == .scan && (s.mem.entry p.q).serial != some p.serial

/-- What an overtake at row `q` does (R54). -/
def markOvertake (q : Nat) (s : State) : State :=
  raise .rowsStale ((s.modMem fun m => m.setEntry q { m.entry q with stale := true }).modScan fun c =>
    { c with overtake := true })

/-- The position moves on, and the row leaves through the overlay (R46, R161). -/
def sendRow (p : Prog) (row : List Pixel) (s : State) : State :=
  s.modScan fun c => { c with prog := some { p with q := p.q + 1 }, lastRow := some (p.q, row) }

theorem readRow_eq {s : State} {p : Prog} (h : s.scan.prog = some p) :
    readRow s = decideHead (sendRow p (s.shownRow p.q (s.rowContent p.q))
      (whenever (s.overtakes p) (markOvertake p.q) s)) := by
  unfold readRow
  rw [h]
  rfl

theorem decideHead_kept {l : List Block} (h : .lq ∈ l) (s : State) : Kept l s (decideHead s) := by
  unfold decideHead
  split
  · split
    · exact Kept.refl l s
    · exact modLq_kept h s _
  · exact Kept.refl l s

theorem markOvertake_kept {l : List Block} (hm : .mem ∈ l) (hs : .scan ∈ l) (q : Nat) (s : State) :
    Kept l s (markOvertake q s) :=
  ((modMem_kept hm s _).trans (modScan_kept hs _ _)).trans (raise_kept _ _)

section
variable {s : State} {p : Prog}

theorem readRow_scan (h : s.scan.prog = some p) :
    (readRow s).scan = { s.scan with
      prog := some { p with q := p.q + 1 }, lastRow := some (p.q, s.shownRow p.q (s.rowContent p.q))
      overtake := s.scan.overtake || s.overtakes p } := by
  rw [readRow_eq h]
  cases s.overtakes p <;> simp [sendRow, markOvertake]

theorem readRow_mem (h : s.scan.prog = some p) :
    (readRow s).mem =
      if s.overtakes p then s.mem.setEntry p.q { s.mem.entry p.q with stale := true } else s.mem := by
  rw [readRow_eq h]
  cases s.overtakes p <;> simp [sendRow, markOvertake]

theorem readRow_counts (h : s.scan.prog = some p) :
    (readRow s).lag.counts = (if s.overtakes p then s.lag.take .rowsStale else s.lag).counts := by
  rw [readRow_eq h]
  cases s.overtakes p <;> simp [sendRow, markOvertake]

theorem readRow_kept (h : s.scan.prog = some p) : Kept [.lq, .mem, .scan] s (readRow s) := by
  rw [readRow_eq h]
  exact ((Kept.whenever (markOvertake_kept (by simp) (by simp) _ _)).trans
    (modScan_kept (by simp) _ _)).trans (decideHead_kept (by simp) _)

/-! ### The row map after a read -/

theorem readRow_entry_self (h : s.scan.prog = some p) :
    (readRow s).mem.entry p.q = { s.mem.entry p.q with stale := (s.mem.entry p.q).stale || s.overtakes p } := by
  rw [readRow_mem h]
  cases s.overtakes p <;> simp

theorem readRow_entry_other (h : s.scan.prog = some p) {r : Nat} (hr : r ≠ p.q) :
    (readRow s).mem.entry r = s.mem.entry r := by
  rw [readRow_mem h]
  split
  · exact Mem.entry_setEntry_other _ hr _
  · rfl

theorem readRow_tile (h : s.scan.prog = some p) : (readRow s).mem.tile = s.mem.tile := by
  rw [readRow_mem h]
  split
  · exact Mem.tile_setEntry ..
  · rfl

theorem readRow_staleCount (h : s.scan.prog = some p) (hm : s.mem.wf = true) :
    (readRow s).mem.staleCount =
      s.mem.staleCount + (if s.overtakes p && !(s.mem.entry p.q).stale then 1 else 0) := by
  rw [readRow_mem h]
  cases s.overtakes p with
  | false => simp
  | true =>
    have hcount := Mem.staleCount_setEntry_stale hm p.q (e := { s.mem.entry p.q with stale := true }) rfl
    rw [if_pos rfl, hcount]
    cases (s.mem.entry p.q).stale <;> rfl

/-! ### The command -/

theorem State.rowDue_of {a : Nat} (h : s.scan.prog = some p) (hq : p.q < s.cfg.profile.h)
    (ha : s.scan.lastStart = some a) (hdue : a + p.q * s.scan.active.period ≤ s.now) : s.rowDue = true := by
  simp [State.rowDue, passed, h, hq, ha, hdue]

theorem exec_scanRowRead_of_due {t : Nat} (h : (s.advance t).rowDue = true) :
    exec (.scanRowRead t) s = .next (settle (s.advance t) (readRow (s.advance t))) := by
  show act t (fun s => whenever s.rowDue readRow s) s = _
  simp [act, h]

end

/-- Settles O18: the command is the read of the row at its moment, followed by the standing judgements, which touch neither
the picture nor the scan engine nor the counters. -/
theorem rowIsRead : Obligations.RowIsRead := by
  intro s t a p hwf hprog hq hstart hdue
  have hu : (s.advance t).scan.prog = some p := hprog
  have hmem : s.mem.wf = true := (Bool.and_eq_true_iff.1 hwf).1
  refine ⟨_, exec_scanRowRead_of_due (State.rowDue_of hu hq hstart hdue), ?_⟩
  simp only [settle_frame, settle_lag]
  rw [readRow_entry_self hu, readRow_staleCount hu hmem, readRow_tile hu, readRow_counts hu, readRow_scan hu]
  refine ⟨rfl, fun hnone => ?black, fun px hpx hsome => ?pixels, rfl, rfl, fun r hr => readRow_entry_other hu hr,
    rfl, rfl, rfl, rfl, rfl, rfl, rfl, rfl, ?ring, ?staging, ?kept⟩
  case black =>
    rw [State.rowContent_of_none (s := s.advance t) hnone]
    rfl
  case pixels =>
    rw [State.rowContent_of_listed (s := s.advance t) hsome (Option.mem_toList.1 hpx)]
    rfl
  case ring | staging => simp
  case kept => exact ((advance_kept _ s t).trans (readRow_kept hu)).trans (settle_kept _ _)

end Sys2Proof.Machine
end

section
/-! PROOFS. How the lag meter's counters take an event (R169 to R172, R174): what an event adds to a programmable counter and
what it makes of its edge memory, what it adds to the fixed counters, and the obligation that says both. -/

namespace Sys2Proof.Machine

/-! ### The 40-bit addition (R171) -/

@[simp] theorem plus40_zero (x : Count40) : plus40 x 0 = x := BitVec.add_zero x

theorem plus40_one (x : Count40) : plus40 x 1 = x + 1 := rfl

/-- A counted sample adds the 0 or 1 of its row in the table of R170. -/
theorem plus40_sampleAdds (x : Count40) (c : Counter) (m edge : Bool) :
    plus40 x (c.sampleAdds m edge) = x + (if m != c.invert && (!edge || c.met == c.invert) then 1 else 0) := by
  unfold plus40 Counter.sampleAdds
  split <;> rfl

/-! ### The kinds of events (R169) -/

/-- An event that is no sample. -/
def Event.IsOccurrence (e : Event) : Prop := (∀ n, e ≠ .queueOccupancy n) ∧ ∀ n, e ≠ .queueFull n

/-- An event that no fixed counter takes. -/
def Event.FeedsNoFixed (e : Event) : Prop := e ≠ .repeats ∧ ∀ n, e ≠ .framesShown n

theorem Event.IsOccurrence.adds {e : Event} (h : e.IsOccurrence) (c : Counter) : c.adds e = 1 := by
  cases e with
  | queueOccupancy v => exact absurd rfl (h.1 v)
  | queueFull v => exact absurd rfl (h.2 v)
  | _ => rfl

theorem Event.IsOccurrence.condition {e : Event} (h : e.IsOccurrence) (c : Counter) : c.condition e = none := by
  cases e with
  | queueOccupancy v => exact absurd rfl (h.1 v)
  | queueFull v => exact absurd rfl (h.2 v)
  | _ => rfl

theorem Event.FeedsNoFixed.fixedGain {e : Event} (h : e.FeedsNoFixed) : e.fixedGain = (0, 0, 0) := by
  cases e with
  | repeats => exact absurd rfl h.1
  | framesShown n => exact absurd rfl (h.2 n)
  | _ => rfl

theorem Event.FeedsNoFixed.maxAfter {e : Event} (h : e.FeedsNoFixed) (l : Lag) : l.maxAfter e = l.lagMax := by
  cases e with
  | framesShown n => exact absurd rfl (h.2 n)
  | _ => rfl

/-! ### A programmable counter (R170, R174) -/

section
variable {c : Counter} {e : Event}

theorem Counter.sees_of_select (h : c.select = e.code) : c.sees e = true := beq_iff_eq.2 h

theorem Counter.sees_of_select_ne (h : c.select ≠ e.code) : c.sees e = false := beq_eq_false_iff_ne.2 h

/-- FROZEN, no event changes a counter's value (R174). -/
theorem Counter.take_true_value (c : Counter) (e : Event) : (c.take true e).value = c.value := plus40_zero c.value

theorem Counter.take_of_select_ne (frozen : Bool) (h : c.select ≠ e.code) : c.take frozen e = c := by
  simp [Counter.take, Counter.gain, Counter.sees_of_select_ne h]

theorem Counter.take_false_value (h : c.select = e.code) : (c.take false e).value = plus40 c.value (c.adds e) := by
  simp [Counter.take, Counter.gain, Counter.sees_of_select h]

/-- The edge memory follows a sample that the counter sees, whatever the frozen state. -/
theorem Counter.take_met {m : Bool} (frozen : Bool) (h : c.select = e.code) (hm : c.condition e = some m) :
    (c.take frozen e).met = m := by
  simp [Counter.take, Counter.sees_of_select h, hm]

theorem Counter.take_met_of_occurrence (frozen : Bool) (h : e.IsOccurrence) : (c.take frozen e).met = c.met := by
  simp [Counter.take, h.condition]

theorem Counter.take_occurrence (h : c.select = e.code) (ho : e.IsOccurrence) :
    c.take false e = { c with value := c.value + 1 } := by
  have hvalue : (c.take false e).value = c.value + 1 := by
    rw [Counter.take_false_value h, ho.adds, plus40_one]
  calc c.take false e
    _ = { c with value := (c.take false e).value, met := (c.take false e).met } := rfl
    _ = { c with value := c.value + 1 } := by rw [hvalue, Counter.take_met_of_occurrence false ho]

end

/-! ### The table of R170, row by row -/

section
variable {c : Counter} (v : Nat)

theorem Counter.take_queueOccupancy_plain (h : c.select = 4) (hq : c.qual = .plain) :
    (c.take false (.queueOccupancy v)).value = c.value + BitVec.ofNat 40 (if c.invert then 48 - v else v) := by
  rw [Counter.take_false_value h, Counter.adds, hq]
  rfl

theorem Counter.take_queueOccupancy_threshold (h : c.select = 4) (hq : c.qual = .threshold) :
    (c.take false (.queueOccupancy v)).value = c.value + (if decide (c.threshold ≤ v) != c.invert then 1 else 0) := by
  rw [Counter.take_false_value h, Counter.adds, hq]
  simpa using plus40_sampleAdds c.value c (decide (c.threshold ≤ v)) false

theorem Counter.take_queueOccupancy_edge (h : c.select = 4) (hq : c.qual = .edge) :
    (c.take false (.queueOccupancy v)).value =
      c.value + (if decide (c.threshold ≤ v) != c.invert && c.met == c.invert then 1 else 0) := by
  rw [Counter.take_false_value h, Counter.adds, hq]
  exact plus40_sampleAdds c.value c (decide (c.threshold ≤ v)) true

theorem Counter.take_queueFull_level (h : c.select = 5) (hq : c.qual ≠ .edge) :
    (c.take false (.queueFull v)).value = c.value + (if decide (v = 48) != c.invert then 1 else 0) := by
  rw [Counter.take_false_value h, Counter.adds, beq_eq_false_iff_ne.2 hq]
  simpa using plus40_sampleAdds c.value c (decide (v = 48)) false

theorem Counter.take_queueFull_edge (h : c.select = 5) (hq : c.qual = .edge) :
    (c.take false (.queueFull v)).value =
      c.value + (if decide (v = 48) != c.invert && c.met == c.invert then 1 else 0) := by
  rw [Counter.take_false_value h, Counter.adds, hq]
  exact plus40_sampleAdds c.value c (decide (v = 48)) true

end

/-! ### The fixed counters (R172, R174) -/

section
variable {l : Lag}

theorem Lag.fixedGain_of_counting (h : l.frozen = false) (e : Event) : l.fixedGain e = e.fixedGain := by
  simp [Lag.fixedGain, h]

theorem Lag.fixedGain_of_idle {e : Event} (h : l.frozen = true ∨ e.FeedsNoFixed) : l.fixedGain e = (0, 0, 0) := by
  rcases h with hfrozen | hother
  · simp [Lag.fixedGain, hfrozen]
  · simp [Lag.fixedGain, hother.fixedGain]

theorem Lag.maxAfter_of_idle {e : Event} (h : l.frozen = true ∨ e.FeedsNoFixed) : l.maxAfter e = l.lagMax := by
  rcases h with hfrozen | hother
  · cases e with
    | framesShown n => simp [Lag.maxAfter, hfrozen]
    | _ => rfl
  · exact hother.maxAfter l

/-- A lag that LAG_MAX can hold replaces it if it is the larger one (R67, R172). -/
theorem Lag.maxAfter_framesShown (h : l.frozen = false) {lag : Nat} (hlag : lag ≤ 16777215) :
    (l.maxAfter (.framesShown lag)).toNat = max l.lagMax.toNat lag := by
  by_cases hlarger : l.lagMax.toNat < lag
  · have hfits : lag % 2 ^ 24 = lag := Nat.mod_eq_of_lt (by omega)
    simp only [Lag.maxAfter, h, hlarger, Bool.not_false, decide_true, Bool.and_self, if_true, BitVec.toNat_ofNat, hfits]
    omega
  · simp only [Lag.maxAfter, hlarger, decide_false, Bool.and_false, Bool.false_eq_true, if_false]
    omega

/-- FROZEN, or at an event that feeds none of them, the fixed counters stay. -/
theorem Lag.take_fixed_of_idle {e : Event} (h : l.frozen = true ∨ e.FeedsNoFixed) :
    (l.take e).frames = l.frames ∧ (l.take e).repeats = l.repeats ∧ (l.take e).lagSum = l.lagSum ∧
      (l.take e).lagMax = l.lagMax := by
  simp [Lag.take, Lag.fixedGain_of_idle h, Lag.maxAfter_of_idle h]

theorem Lag.take_framesShown_fixed (h : l.frozen = false) {lag : Nat} (hlag : lag ≤ 16777215) :
    (l.take (.framesShown lag)).frames = l.frames + 1 ∧
      (l.take (.framesShown lag)).lagSum = l.lagSum + BitVec.ofNat 40 lag ∧
      (l.take (.framesShown lag)).lagMax.toNat = max l.lagMax.toNat lag ∧
      (l.take (.framesShown lag)).repeats = l.repeats := by
  have hgain : l.fixedGain (.framesShown lag) = (1, 0, lag) := Lag.fixedGain_of_counting h _
  refine ⟨?frames, ?lagSum, Lag.maxAfter_framesShown h hlag, ?repeats⟩
  case frames => simp only [Lag.take, hgain, plus40_one]
  case lagSum => simp only [Lag.take, hgain, plus40]
  case repeats => simp only [Lag.take, hgain, plus40_zero]

theorem Lag.take_repeats_fixed (h : l.frozen = false) :
    (l.take .repeats).repeats = l.repeats + 1 ∧ (l.take .repeats).frames = l.frames ∧
      (l.take .repeats).lagSum = l.lagSum ∧ (l.take .repeats).lagMax = l.lagMax := by
  have hgain : l.fixedGain .repeats = (0, 1, 0) := Lag.fixedGain_of_counting h _
  simp [Lag.take, hgain, plus40_one, Lag.maxAfter]

/-! ### What stops the lag meter (R171, R172) -/

/-- Where no programmable counter wraps, none takes an action. -/
theorem Lag.wrapAction_of_no_wrap {e : Event} (h : l.wrapAction e (fun _ => true) = false) (p : OvfAction → Bool) :
    l.wrapAction e p = false := by
  simp only [Lag.wrapAction, Bool.and_true, Bool.or_eq_false_iff] at h
  obtain ⟨⟨⟨h0, h1⟩, h2⟩, h3⟩ := h
  simp [Lag.wrapAction, h0, h1, h2, h3]

/-- The fixed counters have no part in the frozen state: it moves at a wrap of a programmable counter alone. -/
theorem Lag.take_frozen_of_no_wrap {e : Event} (h : l.wrapAction e (fun _ => true) = false) :
    (l.take e).frozen = l.frozen ∧ (l.take e).cause = l.cause := by
  simp [Lag.take, Lag.wrapAction_of_no_wrap h]

end

/-! ### The obligation -/

/-- Settles O50: the rows of R170 for a programmable counter, then the fixed counters of R172. -/
theorem countersFollowEvents : Obligations.CountersFollowEvents := by
  intro c l e frozen v lag b s _ hlag
  refine ⟨c.take_true_value e, Counter.take_of_select_ne frozen, Counter.take_occurrence,
    fun hsel _ => Counter.take_met frozen hsel rfl, fun hsel => Counter.take_met frozen hsel rfl,
    Counter.take_queueOccupancy_plain v, Counter.take_queueOccupancy_threshold v, Counter.take_queueOccupancy_edge v,
    Counter.take_queueFull_level v, Counter.take_queueFull_edge v, ?settings, Lag.take_fixed_of_idle,
    fun hcount => Lag.take_framesShown_fixed hcount hlag, Lag.take_repeats_fixed, Lag.take_frozen_of_no_wrap,
    ?clear, ?write⟩
  case settings => exact ⟨rfl, rfl, rfl, rfl, rfl, rfl⟩
  case clear => exact ⟨rfl, rfl, rfl, rfl⟩
  case write => exact ⟨rfl, rfl, rfl, rfl⟩

end Sys2Proof.Machine
end
